-- ==== Sys2Proof/Word.lean ====
section
/-! DEFINITION. The two widths of the machine (R7, R10): the byte, which is the addressable unit, and the 16-bit
word, which is the width of addresses, of `X`, `SP` and `PC`. -/

namespace Sys2Proof

/-- A byte (R10): the addressable unit of memory and the width of `A` and `B`. -/
abbrev Byte := BitVec 8

/-- A 16-bit word (R10): an address, or the contents of `X`, `SP` or `PC`. -/
abbrev Word := BitVec 16

end Sys2Proof
end

