-- ==== Sys2Proof/Config.lean ====
section
/-! DEFINITION. What an instance of the block fixes: the parameters of R8 with the values of the profile `P6800`, the
shape of `MEMMAP` (R60), and the free values: the behaviour of the device handlers (R66) and the registers whose
reset value the spec leaves unspecified (R412, U3). -/

namespace Sys2Proof

/-- `ENDIAN` (R8, R67): the byte order of 16-bit memory operands. -/
inductive Endian where
  | big
  | little
  deriving DecidableEq, Repr

/-- `BORROW_POLARITY` (R8, R165): what Carry holds after a subtract or compare. -/
inductive BorrowPolarity where
  | carryIsBorrow
  | carryIsNotBorrow
  deriving DecidableEq, Repr

/-- `BIT_MODE` (R8, R168): where `BIT` takes `N` and `V` from. -/
inductive BitMode where
  | resultOnly
  | copyTopBits
  deriving DecidableEq, Repr

/-- A `handler_id` (R60): the name of one entry of `HANDLERS`. -/
abbrev HandlerId := Nat

/-- The kind of a segment (R60). -/
inductive SegKind where
  | ram
  | rom
  | device (handler : HandlerId)
  deriving DecidableEq, Repr

/-- A memory segment (R60): it covers the addresses from `base` up to, and not including, `base + length`. -/
structure Segment where
  base   : Word
  length : Nat
  kind   : SegKind
  deriving DecidableEq, Repr

/-- `MEMMAP` (R61): the ordered list of segments. -/
abbrev MemMap := List Segment

/-- The handlers' hidden state (R66), coded as a number (log 7): only the handlers read it. -/
abbrev DevState := Nat

/-- What a handler call leaves behind (R66): the handlers' new hidden state, the map and handler table it asks for
(R51), and the bytes of `mem` it changes, in order. -/
structure DeviceEffect where
  dev      : DevState
  map      : MemMap
  handlers : List HandlerId
  writes   : List (Word × Byte)
  deriving DecidableEq, Repr, Inhabited

namespace Config

/-- `ENDIAN` of `P6800` (R8): big. -/
def endian : Endian := .big

/-- `BORROW_POLARITY` of `P6800` (R8, R165): `carry_is_borrow`. -/
def borrowPolarity : BorrowPolarity := .carryIsBorrow

/-- `BIT_MODE` of `P6800` (R8, R168): `result_only`. -/
def bitMode : BitMode := .resultOnly

/-- `LOGIC_CLEARS_H` of `P6800` (R8, R167): false. -/
def logicClearsH : Bool := false

/-- `BRANCH_TAKEN_EXTRA` of `P6800` (R8, R140): 0. -/
def branchTakenExtra : Nat := 0

/-- `VEC_RESET` (R8, R76). -/
def vecReset : Word := 0xFFFE#16

/-- `VEC_NMI` (R8, R76). -/
def vecNmi : Word := 0xFFFC#16

/-- `VEC_SWI` (R8, R76). -/
def vecSwi : Word := 0xFFFA#16

/-- `VEC_IRQ` (R8, R76). -/
def vecIrq : Word := 0xFFF8#16

/-- `INT_ACK_COST` (R8, R366). -/
def intAckCost : Nat := 12

/-- `ACK_COST_AFTER_WAIT` (R8, R138). -/
def ackCostAfterWait : Nat := 4

/-- The read half of a device handler (R62, R66), FREE (log 7): the byte it returns and what it leaves behind, as a
function of the handler, the full 16-bit address, the handlers' hidden state, the map, the handler table and `mem`. It
is given no register, no pending bit and no budget. -/
opaque deviceRead :
  HandlerId → Word → DevState → MemMap → List HandlerId → List Host.Cell → Byte × DeviceEffect

/-- The write half of a device handler (R62, R66), FREE (log 7): what it leaves behind when the byte is written. -/
opaque deviceWrite :
  HandlerId → Word → Byte → DevState → MemMap → List HandlerId → List Host.Cell → DeviceEffect

/-- An accumulator after a `reset` transaction, FREE (R412, U3, log 11). -/
opaque unspecifiedByte : Nat → Byte

/-- `X` or `SP` after a `reset` transaction, FREE (R412, U3, log 11). -/
opaque unspecifiedWord : Nat → Word

end Config

end Sys2Proof
end

