-- ==== Sys2Proof/Syntax.lean ====
section
/-! DEFINITION. The instructions of `P6800` (R104, R106): one constructor per row of spec/opcode_table.json, named by the
row's mnemonic and, where a mnemonic has several rows, its addressing mode. Operands are named as in R105. -/

namespace Sys2Proof

/-- The 197 instructions of `P6800` (R106). -/
inductive Instr where
  /-- `NOP`, opcode 0x01 (R330). -/
  | nop
  /-- `TAP`, opcode 0x06 (R212). -/
  | tap
  /-- `TPA`, opcode 0x07 (R213). -/
  | tpa
  /-- `INX`, opcode 0x08 (R254). -/
  | inx
  /-- `DEX`, opcode 0x09 (R255). -/
  | dex
  /-- `CLV`, opcode 0x0A (R345). -/
  | clv
  /-- `SEV`, opcode 0x0B (R346). -/
  | sev
  /-- `CLC`, opcode 0x0C (R343). -/
  | clc
  /-- `SEC`, opcode 0x0D (R344). -/
  | sec
  /-- `CLI`, opcode 0x0E (R347). -/
  | cli
  /-- `SEI`, opcode 0x0F (R348). -/
  | sei
  /-- `SBA`, opcode 0x10 (R245). -/
  | sba
  /-- `CBA`, opcode 0x11 (R247). -/
  | cba
  /-- `TAB`, opcode 0x16 (R210). -/
  | tab
  /-- `TBA`, opcode 0x17 (R211). -/
  | tba
  /-- `DAA`, opcode 0x19 (R251). -/
  | daa
  /-- `ABA`, opcode 0x1B (R242). -/
  | aba
  /-- `BRA rel8`, opcode 0x20 (R311). -/
  | bra (rel8 : Byte)
  /-- `BHI rel8`, opcode 0x22 (R312). -/
  | bhi (rel8 : Byte)
  /-- `BLS rel8`, opcode 0x23 (R313). -/
  | bls (rel8 : Byte)
  /-- `BCC rel8`, opcode 0x24 (R314). -/
  | bcc (rel8 : Byte)
  /-- `BCS rel8`, opcode 0x25 (R315). -/
  | bcs (rel8 : Byte)
  /-- `BNE rel8`, opcode 0x26 (R316). -/
  | bne (rel8 : Byte)
  /-- `BEQ rel8`, opcode 0x27 (R317). -/
  | beq (rel8 : Byte)
  /-- `BVC rel8`, opcode 0x28 (R318). -/
  | bvc (rel8 : Byte)
  /-- `BVS rel8`, opcode 0x29 (R319). -/
  | bvs (rel8 : Byte)
  /-- `BPL rel8`, opcode 0x2A (R320). -/
  | bpl (rel8 : Byte)
  /-- `BMI rel8`, opcode 0x2B (R321). -/
  | bmi (rel8 : Byte)
  /-- `BGE rel8`, opcode 0x2C (R322). -/
  | bge (rel8 : Byte)
  /-- `BLT rel8`, opcode 0x2D (R323). -/
  | blt (rel8 : Byte)
  /-- `BGT rel8`, opcode 0x2E (R324). -/
  | bgt (rel8 : Byte)
  /-- `BLE rel8`, opcode 0x2F (R325). -/
  | ble (rel8 : Byte)
  /-- `TSX`, opcode 0x30 (R214). -/
  | tsx
  /-- `INS`, opcode 0x31 (R256). -/
  | ins
  /-- `PULA`, opcode 0x32 (R217). -/
  | pula
  /-- `PULB`, opcode 0x33 (R217). -/
  | pulb
  /-- `DES`, opcode 0x34 (R257). -/
  | des
  /-- `TXS`, opcode 0x35 (R215). -/
  | txs
  /-- `PSHA`, opcode 0x36 (R216). -/
  | psha
  /-- `PSHB`, opcode 0x37 (R216). -/
  | pshb
  /-- `RTS`, opcode 0x39 (R329). -/
  | rts
  /-- `RTI`, opcode 0x3B (R341). -/
  | rti
  /-- `WAI`, opcode 0x3E (R342). -/
  | wai
  /-- `SWI`, opcode 0x3F (R340). -/
  | swi
  /-- `NEGA`, opcode 0x40 (R248). -/
  | nega
  /-- `COMA`, opcode 0x43 (R284). -/
  | coma
  /-- `LSRA`, opcode 0x44 (R287). -/
  | lsra
  /-- `RORA`, opcode 0x46 (R289). -/
  | rora
  /-- `ASRA`, opcode 0x47 (R286). -/
  | asra
  /-- `ASLA`, opcode 0x48 (R285). -/
  | asla
  /-- `ROLA`, opcode 0x49 (R288). -/
  | rola
  /-- `DECA`, opcode 0x4A (R250). -/
  | deca
  /-- `INCA`, opcode 0x4C (R249). -/
  | inca
  /-- `TSTA`, opcode 0x4D (R252). -/
  | tsta
  /-- `CLRA`, opcode 0x4F (R218). -/
  | clra
  /-- `NEGB`, opcode 0x50 (R248). -/
  | negb
  /-- `COMB`, opcode 0x53 (R284). -/
  | comb
  /-- `LSRB`, opcode 0x54 (R287). -/
  | lsrb
  /-- `RORB`, opcode 0x56 (R289). -/
  | rorb
  /-- `ASRB`, opcode 0x57 (R286). -/
  | asrb
  /-- `ASLB`, opcode 0x58 (R285). -/
  | aslb
  /-- `ROLB`, opcode 0x59 (R288). -/
  | rolb
  /-- `DECB`, opcode 0x5A (R250). -/
  | decb
  /-- `INCB`, opcode 0x5C (R249). -/
  | incb
  /-- `TSTB`, opcode 0x5D (R252). -/
  | tstb
  /-- `CLRB`, opcode 0x5F (R218). -/
  | clrb
  /-- `NEG off8,X`, opcode 0x60 (R248). -/
  | negIdx (off8 : Byte)
  /-- `COM off8,X`, opcode 0x63 (R284). -/
  | comIdx (off8 : Byte)
  /-- `LSR off8,X`, opcode 0x64 (R287). -/
  | lsrIdx (off8 : Byte)
  /-- `ROR off8,X`, opcode 0x66 (R289). -/
  | rorIdx (off8 : Byte)
  /-- `ASR off8,X`, opcode 0x67 (R286). -/
  | asrIdx (off8 : Byte)
  /-- `ASL off8,X`, opcode 0x68 (R285). -/
  | aslIdx (off8 : Byte)
  /-- `ROL off8,X`, opcode 0x69 (R288). -/
  | rolIdx (off8 : Byte)
  /-- `DEC off8,X`, opcode 0x6A (R250). -/
  | decIdx (off8 : Byte)
  /-- `INC off8,X`, opcode 0x6C (R249). -/
  | incIdx (off8 : Byte)
  /-- `TST off8,X`, opcode 0x6D (R252). -/
  | tstIdx (off8 : Byte)
  /-- `JMP off8,X`, opcode 0x6E (R327). -/
  | jmpIdx (off8 : Byte)
  /-- `CLR off8,X`, opcode 0x6F (R218). -/
  | clrIdx (off8 : Byte)
  /-- `NEG addr16`, opcode 0x70 (R248). -/
  | negExt (addr16 : Word)
  /-- `COM addr16`, opcode 0x73 (R284). -/
  | comExt (addr16 : Word)
  /-- `LSR addr16`, opcode 0x74 (R287). -/
  | lsrExt (addr16 : Word)
  /-- `ROR addr16`, opcode 0x76 (R289). -/
  | rorExt (addr16 : Word)
  /-- `ASR addr16`, opcode 0x77 (R286). -/
  | asrExt (addr16 : Word)
  /-- `ASL addr16`, opcode 0x78 (R285). -/
  | aslExt (addr16 : Word)
  /-- `ROL addr16`, opcode 0x79 (R288). -/
  | rolExt (addr16 : Word)
  /-- `DEC addr16`, opcode 0x7A (R250). -/
  | decExt (addr16 : Word)
  /-- `INC addr16`, opcode 0x7C (R249). -/
  | incExt (addr16 : Word)
  /-- `TST addr16`, opcode 0x7D (R252). -/
  | tstExt (addr16 : Word)
  /-- `JMP addr16`, opcode 0x7E (R327). -/
  | jmpExt (addr16 : Word)
  /-- `CLR addr16`, opcode 0x7F (R218). -/
  | clrExt (addr16 : Word)
  /-- `SUBA #imm8`, opcode 0x80 (R243). -/
  | subaImm (imm8 : Byte)
  /-- `CMPA #imm8`, opcode 0x81 (R246). -/
  | cmpaImm (imm8 : Byte)
  /-- `SBCA #imm8`, opcode 0x82 (R244). -/
  | sbcaImm (imm8 : Byte)
  /-- `ANDA #imm8`, opcode 0x84 (R280). -/
  | andaImm (imm8 : Byte)
  /-- `BITA #imm8`, opcode 0x85 (R283). -/
  | bitaImm (imm8 : Byte)
  /-- `LDAA #imm8`, opcode 0x86 (R204). -/
  | ldaaImm (imm8 : Byte)
  /-- `EORA #imm8`, opcode 0x88 (R282). -/
  | eoraImm (imm8 : Byte)
  /-- `ADCA #imm8`, opcode 0x89 (R241). -/
  | adcaImm (imm8 : Byte)
  /-- `ORAA #imm8`, opcode 0x8A (R281). -/
  | oraaImm (imm8 : Byte)
  /-- `ADDA #imm8`, opcode 0x8B (R240). -/
  | addaImm (imm8 : Byte)
  /-- `CPX #imm16`, opcode 0x8C (R253). -/
  | cpxImm (imm16 : Word)
  /-- `BSR rel8`, opcode 0x8D (R326). -/
  | bsr (rel8 : Byte)
  /-- `LDS #imm16`, opcode 0x8E (R207). -/
  | ldsImm (imm16 : Word)
  /-- `SUBA dir8`, opcode 0x90 (R243). -/
  | subaDir (dir8 : Byte)
  /-- `CMPA dir8`, opcode 0x91 (R246). -/
  | cmpaDir (dir8 : Byte)
  /-- `SBCA dir8`, opcode 0x92 (R244). -/
  | sbcaDir (dir8 : Byte)
  /-- `ANDA dir8`, opcode 0x94 (R280). -/
  | andaDir (dir8 : Byte)
  /-- `BITA dir8`, opcode 0x95 (R283). -/
  | bitaDir (dir8 : Byte)
  /-- `LDAA dir8`, opcode 0x96 (R204). -/
  | ldaaDir (dir8 : Byte)
  /-- `STAA dir8`, opcode 0x97 (R205). -/
  | staaDir (dir8 : Byte)
  /-- `EORA dir8`, opcode 0x98 (R282). -/
  | eoraDir (dir8 : Byte)
  /-- `ADCA dir8`, opcode 0x99 (R241). -/
  | adcaDir (dir8 : Byte)
  /-- `ORAA dir8`, opcode 0x9A (R281). -/
  | oraaDir (dir8 : Byte)
  /-- `ADDA dir8`, opcode 0x9B (R240). -/
  | addaDir (dir8 : Byte)
  /-- `CPX dir8`, opcode 0x9C (R253). -/
  | cpxDir (dir8 : Byte)
  /-- `LDS dir8`, opcode 0x9E (R207). -/
  | ldsDir (dir8 : Byte)
  /-- `STS dir8`, opcode 0x9F (R209). -/
  | stsDir (dir8 : Byte)
  /-- `SUBA off8,X`, opcode 0xA0 (R243). -/
  | subaIdx (off8 : Byte)
  /-- `CMPA off8,X`, opcode 0xA1 (R246). -/
  | cmpaIdx (off8 : Byte)
  /-- `SBCA off8,X`, opcode 0xA2 (R244). -/
  | sbcaIdx (off8 : Byte)
  /-- `ANDA off8,X`, opcode 0xA4 (R280). -/
  | andaIdx (off8 : Byte)
  /-- `BITA off8,X`, opcode 0xA5 (R283). -/
  | bitaIdx (off8 : Byte)
  /-- `LDAA off8,X`, opcode 0xA6 (R204). -/
  | ldaaIdx (off8 : Byte)
  /-- `STAA off8,X`, opcode 0xA7 (R205). -/
  | staaIdx (off8 : Byte)
  /-- `EORA off8,X`, opcode 0xA8 (R282). -/
  | eoraIdx (off8 : Byte)
  /-- `ADCA off8,X`, opcode 0xA9 (R241). -/
  | adcaIdx (off8 : Byte)
  /-- `ORAA off8,X`, opcode 0xAA (R281). -/
  | oraaIdx (off8 : Byte)
  /-- `ADDA off8,X`, opcode 0xAB (R240). -/
  | addaIdx (off8 : Byte)
  /-- `CPX off8,X`, opcode 0xAC (R253). -/
  | cpxIdx (off8 : Byte)
  /-- `JSR off8,X`, opcode 0xAD (R328). -/
  | jsrIdx (off8 : Byte)
  /-- `LDS off8,X`, opcode 0xAE (R207). -/
  | ldsIdx (off8 : Byte)
  /-- `STS off8,X`, opcode 0xAF (R209). -/
  | stsIdx (off8 : Byte)
  /-- `SUBA addr16`, opcode 0xB0 (R243). -/
  | subaExt (addr16 : Word)
  /-- `CMPA addr16`, opcode 0xB1 (R246). -/
  | cmpaExt (addr16 : Word)
  /-- `SBCA addr16`, opcode 0xB2 (R244). -/
  | sbcaExt (addr16 : Word)
  /-- `ANDA addr16`, opcode 0xB4 (R280). -/
  | andaExt (addr16 : Word)
  /-- `BITA addr16`, opcode 0xB5 (R283). -/
  | bitaExt (addr16 : Word)
  /-- `LDAA addr16`, opcode 0xB6 (R204). -/
  | ldaaExt (addr16 : Word)
  /-- `STAA addr16`, opcode 0xB7 (R205). -/
  | staaExt (addr16 : Word)
  /-- `EORA addr16`, opcode 0xB8 (R282). -/
  | eoraExt (addr16 : Word)
  /-- `ADCA addr16`, opcode 0xB9 (R241). -/
  | adcaExt (addr16 : Word)
  /-- `ORAA addr16`, opcode 0xBA (R281). -/
  | oraaExt (addr16 : Word)
  /-- `ADDA addr16`, opcode 0xBB (R240). -/
  | addaExt (addr16 : Word)
  /-- `CPX addr16`, opcode 0xBC (R253). -/
  | cpxExt (addr16 : Word)
  /-- `JSR addr16`, opcode 0xBD (R328). -/
  | jsrExt (addr16 : Word)
  /-- `LDS addr16`, opcode 0xBE (R207). -/
  | ldsExt (addr16 : Word)
  /-- `STS addr16`, opcode 0xBF (R209). -/
  | stsExt (addr16 : Word)
  /-- `SUBB #imm8`, opcode 0xC0 (R243). -/
  | subbImm (imm8 : Byte)
  /-- `CMPB #imm8`, opcode 0xC1 (R246). -/
  | cmpbImm (imm8 : Byte)
  /-- `SBCB #imm8`, opcode 0xC2 (R244). -/
  | sbcbImm (imm8 : Byte)
  /-- `ANDB #imm8`, opcode 0xC4 (R280). -/
  | andbImm (imm8 : Byte)
  /-- `BITB #imm8`, opcode 0xC5 (R283). -/
  | bitbImm (imm8 : Byte)
  /-- `LDAB #imm8`, opcode 0xC6 (R204). -/
  | ldabImm (imm8 : Byte)
  /-- `EORB #imm8`, opcode 0xC8 (R282). -/
  | eorbImm (imm8 : Byte)
  /-- `ADCB #imm8`, opcode 0xC9 (R241). -/
  | adcbImm (imm8 : Byte)
  /-- `ORAB #imm8`, opcode 0xCA (R281). -/
  | orabImm (imm8 : Byte)
  /-- `ADDB #imm8`, opcode 0xCB (R240). -/
  | addbImm (imm8 : Byte)
  /-- `LDX #imm16`, opcode 0xCE (R206). -/
  | ldxImm (imm16 : Word)
  /-- `SUBB dir8`, opcode 0xD0 (R243). -/
  | subbDir (dir8 : Byte)
  /-- `CMPB dir8`, opcode 0xD1 (R246). -/
  | cmpbDir (dir8 : Byte)
  /-- `SBCB dir8`, opcode 0xD2 (R244). -/
  | sbcbDir (dir8 : Byte)
  /-- `ANDB dir8`, opcode 0xD4 (R280). -/
  | andbDir (dir8 : Byte)
  /-- `BITB dir8`, opcode 0xD5 (R283). -/
  | bitbDir (dir8 : Byte)
  /-- `LDAB dir8`, opcode 0xD6 (R204). -/
  | ldabDir (dir8 : Byte)
  /-- `STAB dir8`, opcode 0xD7 (R205). -/
  | stabDir (dir8 : Byte)
  /-- `EORB dir8`, opcode 0xD8 (R282). -/
  | eorbDir (dir8 : Byte)
  /-- `ADCB dir8`, opcode 0xD9 (R241). -/
  | adcbDir (dir8 : Byte)
  /-- `ORAB dir8`, opcode 0xDA (R281). -/
  | orabDir (dir8 : Byte)
  /-- `ADDB dir8`, opcode 0xDB (R240). -/
  | addbDir (dir8 : Byte)
  /-- `LDX dir8`, opcode 0xDE (R206). -/
  | ldxDir (dir8 : Byte)
  /-- `STX dir8`, opcode 0xDF (R208). -/
  | stxDir (dir8 : Byte)
  /-- `SUBB off8,X`, opcode 0xE0 (R243). -/
  | subbIdx (off8 : Byte)
  /-- `CMPB off8,X`, opcode 0xE1 (R246). -/
  | cmpbIdx (off8 : Byte)
  /-- `SBCB off8,X`, opcode 0xE2 (R244). -/
  | sbcbIdx (off8 : Byte)
  /-- `ANDB off8,X`, opcode 0xE4 (R280). -/
  | andbIdx (off8 : Byte)
  /-- `BITB off8,X`, opcode 0xE5 (R283). -/
  | bitbIdx (off8 : Byte)
  /-- `LDAB off8,X`, opcode 0xE6 (R204). -/
  | ldabIdx (off8 : Byte)
  /-- `STAB off8,X`, opcode 0xE7 (R205). -/
  | stabIdx (off8 : Byte)
  /-- `EORB off8,X`, opcode 0xE8 (R282). -/
  | eorbIdx (off8 : Byte)
  /-- `ADCB off8,X`, opcode 0xE9 (R241). -/
  | adcbIdx (off8 : Byte)
  /-- `ORAB off8,X`, opcode 0xEA (R281). -/
  | orabIdx (off8 : Byte)
  /-- `ADDB off8,X`, opcode 0xEB (R240). -/
  | addbIdx (off8 : Byte)
  /-- `LDX off8,X`, opcode 0xEE (R206). -/
  | ldxIdx (off8 : Byte)
  /-- `STX off8,X`, opcode 0xEF (R208). -/
  | stxIdx (off8 : Byte)
  /-- `SUBB addr16`, opcode 0xF0 (R243). -/
  | subbExt (addr16 : Word)
  /-- `CMPB addr16`, opcode 0xF1 (R246). -/
  | cmpbExt (addr16 : Word)
  /-- `SBCB addr16`, opcode 0xF2 (R244). -/
  | sbcbExt (addr16 : Word)
  /-- `ANDB addr16`, opcode 0xF4 (R280). -/
  | andbExt (addr16 : Word)
  /-- `BITB addr16`, opcode 0xF5 (R283). -/
  | bitbExt (addr16 : Word)
  /-- `LDAB addr16`, opcode 0xF6 (R204). -/
  | ldabExt (addr16 : Word)
  /-- `STAB addr16`, opcode 0xF7 (R205). -/
  | stabExt (addr16 : Word)
  /-- `EORB addr16`, opcode 0xF8 (R282). -/
  | eorbExt (addr16 : Word)
  /-- `ADCB addr16`, opcode 0xF9 (R241). -/
  | adcbExt (addr16 : Word)
  /-- `ORAB addr16`, opcode 0xFA (R281). -/
  | orabExt (addr16 : Word)
  /-- `ADDB addr16`, opcode 0xFB (R240). -/
  | addbExt (addr16 : Word)
  /-- `LDX addr16`, opcode 0xFE (R206). -/
  | ldxExt (addr16 : Word)
  /-- `STX addr16`, opcode 0xFF (R208). -/
  | stxExt (addr16 : Word)
  deriving DecidableEq, Repr

end Sys2Proof
end

