-- ==== Sys2Proof/WellFormed.lean ====
section
/-! DEFINITION. The checks: every instruction is well formed, because no operand value is illegal (R110); a memory map is
well formed when no segment passes the end of the address space, no two segments share an address, and every Device
segment names a registered handler (R87, D25). -/

namespace Sys2Proof

/-- An instruction's operands are bit vectors of exactly their field's width, and "Operand bytes have no illegal values"
(R110): there is nothing left to check. -/
def Instr.wf (_ : Instr) : Bool := true

/-- The first address past a segment, as an unbounded number (R60). -/
def Segment.limit (g : Segment) : Nat :=
  g.base.toNat + g.length

/-- The containment test of R60 and R61. -/
def Segment.contains (g : Segment) (a : Word) : Bool :=
  decide (g.base.toNat ≤ a.toNat) && decide (a.toNat < g.limit)

/-- R60: `base + length <= 65536`. -/
def Segment.fits (g : Segment) : Bool :=
  decide (g.limit ≤ 65536)

/-- Two segments share no address (R87); a segment of length 0 covers none (R60). -/
def Segment.apart (g k : Segment) : Bool :=
  decide (g.length = 0) || decide (k.length = 0) || decide (g.limit ≤ k.base.toNat) || decide (k.limit ≤ g.base.toNat)

/-- A Device segment names a registered handler (D25). -/
def Segment.handled (handlers : List HandlerId) (g : Segment) : Bool :=
  match g.kind with
  | .ram => true
  | .rom => true
  | .device h => handlers.contains h

/-- No two segments of the map share an address (R87). -/
def MemMap.apart : MemMap → Bool
  | [] => true
  | g :: m => m.all (Segment.apart g) && MemMap.apart m

/-- `MEMMAP` and `HANDLERS` are a legal configuration (R87, D25). -/
def MemMap.wf (m : MemMap) (handlers : List HandlerId) : Bool :=
  m.all Segment.fits && MemMap.apart m && m.all (Segment.handled handlers)

end Sys2Proof
end

