-- ==== Sys2Proof/Decode.lean ====
section
/-! DEFINITION. The byte-order helpers (R67, R131), the primary opcode table (R101, R106), the decoder over bytes and the
encoder (R104, R105). The decoder is total: an opcode byte has an entry or is rejected by name (R107). -/

namespace Sys2Proof

/-- The more significant byte of a word. -/
def highByte (w : Word) : Byte :=
  w.extractLsb' 8 8

/-- The less significant byte of a word. -/
def lowByte (w : Word) : Byte :=
  w.extractLsb' 0 8

/-- The word whose bytes stand in ascending address order (R67, R68, R131). -/
def wordOfBytes (e : Endian) (first second : Byte) : Word :=
  match e with
  | .big => first ++ second
  | .little => second ++ first

/-- The byte of a word that lies at the lower address (R69). -/
def firstByte (e : Endian) (w : Word) : Byte :=
  match e with
  | .big => highByte w
  | .little => lowByte w

/-- The byte of a word that lies at the higher address (R69). -/
def secondByte (e : Endian) (w : Word) : Byte :=
  match e with
  | .big => lowByte w
  | .little => highByte w

/-- What an opcode byte with a table entry calls for (R101, R104): no operand byte, one, or a 16-bit operand of two. -/
inductive Entry where
  | inh (i : Instr)
  | byte (f : Byte → Instr)
  | word (f : Word → Instr)

/-- Row 0x of the opcode map (R106). -/
def opRow0 : List (Option Entry) :=
  [
    none, some (.inh .nop), none, none,
    none, none, some (.inh .tap), some (.inh .tpa),
    some (.inh .inx), some (.inh .dex), some (.inh .clv), some (.inh .sev),
    some (.inh .clc), some (.inh .sec), some (.inh .cli), some (.inh .sei) ]

/-- Row 1x of the opcode map (R106). -/
def opRow1 : List (Option Entry) :=
  [
    some (.inh .sba), some (.inh .cba), none, none,
    none, none, some (.inh .tab), some (.inh .tba),
    none, some (.inh .daa), none, some (.inh .aba),
    none, none, none, none ]

/-- Row 2x of the opcode map (R106). -/
def opRow2 : List (Option Entry) :=
  [
    some (.byte .bra), none, some (.byte .bhi), some (.byte .bls),
    some (.byte .bcc), some (.byte .bcs), some (.byte .bne), some (.byte .beq),
    some (.byte .bvc), some (.byte .bvs), some (.byte .bpl), some (.byte .bmi),
    some (.byte .bge), some (.byte .blt), some (.byte .bgt), some (.byte .ble) ]

/-- Row 3x of the opcode map (R106). -/
def opRow3 : List (Option Entry) :=
  [
    some (.inh .tsx), some (.inh .ins), some (.inh .pula), some (.inh .pulb),
    some (.inh .des), some (.inh .txs), some (.inh .psha), some (.inh .pshb),
    none, some (.inh .rts), none, some (.inh .rti),
    none, none, some (.inh .wai), some (.inh .swi) ]

/-- Row 4x of the opcode map (R106). -/
def opRow4 : List (Option Entry) :=
  [
    some (.inh .nega), none, none, some (.inh .coma),
    some (.inh .lsra), none, some (.inh .rora), some (.inh .asra),
    some (.inh .asla), some (.inh .rola), some (.inh .deca), none,
    some (.inh .inca), some (.inh .tsta), none, some (.inh .clra) ]

/-- Row 5x of the opcode map (R106). -/
def opRow5 : List (Option Entry) :=
  [
    some (.inh .negb), none, none, some (.inh .comb),
    some (.inh .lsrb), none, some (.inh .rorb), some (.inh .asrb),
    some (.inh .aslb), some (.inh .rolb), some (.inh .decb), none,
    some (.inh .incb), some (.inh .tstb), none, some (.inh .clrb) ]

/-- Row 6x of the opcode map (R106). -/
def opRow6 : List (Option Entry) :=
  [
    some (.byte .negIdx), none, none, some (.byte .comIdx),
    some (.byte .lsrIdx), none, some (.byte .rorIdx), some (.byte .asrIdx),
    some (.byte .aslIdx), some (.byte .rolIdx), some (.byte .decIdx), none,
    some (.byte .incIdx), some (.byte .tstIdx), some (.byte .jmpIdx), some (.byte .clrIdx) ]

/-- Row 7x of the opcode map (R106). -/
def opRow7 : List (Option Entry) :=
  [
    some (.word .negExt), none, none, some (.word .comExt),
    some (.word .lsrExt), none, some (.word .rorExt), some (.word .asrExt),
    some (.word .aslExt), some (.word .rolExt), some (.word .decExt), none,
    some (.word .incExt), some (.word .tstExt), some (.word .jmpExt), some (.word .clrExt) ]

/-- Row 8x of the opcode map (R106). -/
def opRow8 : List (Option Entry) :=
  [
    some (.byte .subaImm), some (.byte .cmpaImm), some (.byte .sbcaImm), none,
    some (.byte .andaImm), some (.byte .bitaImm), some (.byte .ldaaImm), none,
    some (.byte .eoraImm), some (.byte .adcaImm), some (.byte .oraaImm), some (.byte .addaImm),
    some (.word .cpxImm), some (.byte .bsr), some (.word .ldsImm), none ]

/-- Row 9x of the opcode map (R106). -/
def opRow9 : List (Option Entry) :=
  [
    some (.byte .subaDir), some (.byte .cmpaDir), some (.byte .sbcaDir), none,
    some (.byte .andaDir), some (.byte .bitaDir), some (.byte .ldaaDir), some (.byte .staaDir),
    some (.byte .eoraDir), some (.byte .adcaDir), some (.byte .oraaDir), some (.byte .addaDir),
    some (.byte .cpxDir), none, some (.byte .ldsDir), some (.byte .stsDir) ]

/-- Row Ax of the opcode map (R106). -/
def opRowA : List (Option Entry) :=
  [
    some (.byte .subaIdx), some (.byte .cmpaIdx), some (.byte .sbcaIdx), none,
    some (.byte .andaIdx), some (.byte .bitaIdx), some (.byte .ldaaIdx), some (.byte .staaIdx),
    some (.byte .eoraIdx), some (.byte .adcaIdx), some (.byte .oraaIdx), some (.byte .addaIdx),
    some (.byte .cpxIdx), some (.byte .jsrIdx), some (.byte .ldsIdx), some (.byte .stsIdx) ]

/-- Row Bx of the opcode map (R106). -/
def opRowB : List (Option Entry) :=
  [
    some (.word .subaExt), some (.word .cmpaExt), some (.word .sbcaExt), none,
    some (.word .andaExt), some (.word .bitaExt), some (.word .ldaaExt), some (.word .staaExt),
    some (.word .eoraExt), some (.word .adcaExt), some (.word .oraaExt), some (.word .addaExt),
    some (.word .cpxExt), some (.word .jsrExt), some (.word .ldsExt), some (.word .stsExt) ]

/-- Row Cx of the opcode map (R106). -/
def opRowC : List (Option Entry) :=
  [
    some (.byte .subbImm), some (.byte .cmpbImm), some (.byte .sbcbImm), none,
    some (.byte .andbImm), some (.byte .bitbImm), some (.byte .ldabImm), none,
    some (.byte .eorbImm), some (.byte .adcbImm), some (.byte .orabImm), some (.byte .addbImm),
    none, none, some (.word .ldxImm), none ]

/-- Row Dx of the opcode map (R106). -/
def opRowD : List (Option Entry) :=
  [
    some (.byte .subbDir), some (.byte .cmpbDir), some (.byte .sbcbDir), none,
    some (.byte .andbDir), some (.byte .bitbDir), some (.byte .ldabDir), some (.byte .stabDir),
    some (.byte .eorbDir), some (.byte .adcbDir), some (.byte .orabDir), some (.byte .addbDir),
    none, none, some (.byte .ldxDir), some (.byte .stxDir) ]

/-- Row Ex of the opcode map (R106). -/
def opRowE : List (Option Entry) :=
  [
    some (.byte .subbIdx), some (.byte .cmpbIdx), some (.byte .sbcbIdx), none,
    some (.byte .andbIdx), some (.byte .bitbIdx), some (.byte .ldabIdx), some (.byte .stabIdx),
    some (.byte .eorbIdx), some (.byte .adcbIdx), some (.byte .orabIdx), some (.byte .addbIdx),
    none, none, some (.byte .ldxIdx), some (.byte .stxIdx) ]

/-- Row Fx of the opcode map (R106). -/
def opRowF : List (Option Entry) :=
  [
    some (.word .subbExt), some (.word .cmpbExt), some (.word .sbcbExt), none,
    some (.word .andbExt), some (.word .bitbExt), some (.word .ldabExt), some (.word .stabExt),
    some (.word .eorbExt), some (.word .adcbExt), some (.word .orabExt), some (.word .addbExt),
    none, none, some (.word .ldxExt), some (.word .stxExt) ]

/-- The opcode map, a row for each high nibble (R106). -/
def opRows : List (List (Option Entry)) :=
  [opRow0, opRow1, opRow2, opRow3, opRow4, opRow5, opRow6, opRow7] ++
    [opRow8, opRow9, opRowA, opRowB, opRowC, opRowD, opRowE, opRowF]

/-- `OPTABLE` (R101, R106): the entry of an opcode byte, `none` for the 59 illegal bytes (R107). `P6800` has no prefix
bytes (R102), so the primary table is the only one. -/
def optable (op : Byte) : Option Entry :=
  (opRows.getD (op.toNat / 16) []).getD (op.toNat % 16) none

/-- Why bytes are rejected. -/
inductive DecodeError where
  /-- There is no byte at all. -/
  | empty
  /-- The opcode byte has no table entry (R107). -/
  | noEntry (op : Byte)
  /-- The operand bytes the opcode calls for are not all there. -/
  | truncated (op : Byte)
  deriving DecidableEq, Repr

/-- The decoder (R100, R104, R105): the instruction that the bytes begin with, and the bytes after it. -/
def decode (bytes : List Byte) : Except DecodeError (Instr × List Byte) :=
  match bytes with
  | [] => .error .empty
  | op :: rest =>
    match optable op with
    | none => .error (.noEntry op)
    | some (.inh i) => .ok (i, rest)
    | some (.byte f) =>
      match rest with
      | b :: more => .ok (f b, more)
      | [] => .error (.truncated op)
    | some (.word f) =>
      match rest with
      | b0 :: b1 :: more => .ok (f (wordOfBytes Config.endian b0 b1), more)
      | _ => .error (.truncated op)

/-- The bytes of an instruction whose operand is a 16-bit word (R104). -/
def encodeWord (op : Byte) (w : Word) : List Byte :=
  [op, firstByte Config.endian w, secondByte Config.endian w]

/-- The encoder (R104, R105, R106). -/
def encode (i : Instr) : List Byte :=
  match i with
  | .nop => [0x01#8]
  | .tap => [0x06#8]
  | .tpa => [0x07#8]
  | .inx => [0x08#8]
  | .dex => [0x09#8]
  | .clv => [0x0A#8]
  | .sev => [0x0B#8]
  | .clc => [0x0C#8]
  | .sec => [0x0D#8]
  | .cli => [0x0E#8]
  | .sei => [0x0F#8]
  | .sba => [0x10#8]
  | .cba => [0x11#8]
  | .tab => [0x16#8]
  | .tba => [0x17#8]
  | .daa => [0x19#8]
  | .aba => [0x1B#8]
  | .bra v => [0x20#8, v]
  | .bhi v => [0x22#8, v]
  | .bls v => [0x23#8, v]
  | .bcc v => [0x24#8, v]
  | .bcs v => [0x25#8, v]
  | .bne v => [0x26#8, v]
  | .beq v => [0x27#8, v]
  | .bvc v => [0x28#8, v]
  | .bvs v => [0x29#8, v]
  | .bpl v => [0x2A#8, v]
  | .bmi v => [0x2B#8, v]
  | .bge v => [0x2C#8, v]
  | .blt v => [0x2D#8, v]
  | .bgt v => [0x2E#8, v]
  | .ble v => [0x2F#8, v]
  | .tsx => [0x30#8]
  | .ins => [0x31#8]
  | .pula => [0x32#8]
  | .pulb => [0x33#8]
  | .des => [0x34#8]
  | .txs => [0x35#8]
  | .psha => [0x36#8]
  | .pshb => [0x37#8]
  | .rts => [0x39#8]
  | .rti => [0x3B#8]
  | .wai => [0x3E#8]
  | .swi => [0x3F#8]
  | .nega => [0x40#8]
  | .coma => [0x43#8]
  | .lsra => [0x44#8]
  | .rora => [0x46#8]
  | .asra => [0x47#8]
  | .asla => [0x48#8]
  | .rola => [0x49#8]
  | .deca => [0x4A#8]
  | .inca => [0x4C#8]
  | .tsta => [0x4D#8]
  | .clra => [0x4F#8]
  | .negb => [0x50#8]
  | .comb => [0x53#8]
  | .lsrb => [0x54#8]
  | .rorb => [0x56#8]
  | .asrb => [0x57#8]
  | .aslb => [0x58#8]
  | .rolb => [0x59#8]
  | .decb => [0x5A#8]
  | .incb => [0x5C#8]
  | .tstb => [0x5D#8]
  | .clrb => [0x5F#8]
  | .negIdx v => [0x60#8, v]
  | .comIdx v => [0x63#8, v]
  | .lsrIdx v => [0x64#8, v]
  | .rorIdx v => [0x66#8, v]
  | .asrIdx v => [0x67#8, v]
  | .aslIdx v => [0x68#8, v]
  | .rolIdx v => [0x69#8, v]
  | .decIdx v => [0x6A#8, v]
  | .incIdx v => [0x6C#8, v]
  | .tstIdx v => [0x6D#8, v]
  | .jmpIdx v => [0x6E#8, v]
  | .clrIdx v => [0x6F#8, v]
  | .negExt w => encodeWord 0x70#8 w
  | .comExt w => encodeWord 0x73#8 w
  | .lsrExt w => encodeWord 0x74#8 w
  | .rorExt w => encodeWord 0x76#8 w
  | .asrExt w => encodeWord 0x77#8 w
  | .aslExt w => encodeWord 0x78#8 w
  | .rolExt w => encodeWord 0x79#8 w
  | .decExt w => encodeWord 0x7A#8 w
  | .incExt w => encodeWord 0x7C#8 w
  | .tstExt w => encodeWord 0x7D#8 w
  | .jmpExt w => encodeWord 0x7E#8 w
  | .clrExt w => encodeWord 0x7F#8 w
  | .subaImm v => [0x80#8, v]
  | .cmpaImm v => [0x81#8, v]
  | .sbcaImm v => [0x82#8, v]
  | .andaImm v => [0x84#8, v]
  | .bitaImm v => [0x85#8, v]
  | .ldaaImm v => [0x86#8, v]
  | .eoraImm v => [0x88#8, v]
  | .adcaImm v => [0x89#8, v]
  | .oraaImm v => [0x8A#8, v]
  | .addaImm v => [0x8B#8, v]
  | .cpxImm w => encodeWord 0x8C#8 w
  | .bsr v => [0x8D#8, v]
  | .ldsImm w => encodeWord 0x8E#8 w
  | .subaDir v => [0x90#8, v]
  | .cmpaDir v => [0x91#8, v]
  | .sbcaDir v => [0x92#8, v]
  | .andaDir v => [0x94#8, v]
  | .bitaDir v => [0x95#8, v]
  | .ldaaDir v => [0x96#8, v]
  | .staaDir v => [0x97#8, v]
  | .eoraDir v => [0x98#8, v]
  | .adcaDir v => [0x99#8, v]
  | .oraaDir v => [0x9A#8, v]
  | .addaDir v => [0x9B#8, v]
  | .cpxDir v => [0x9C#8, v]
  | .ldsDir v => [0x9E#8, v]
  | .stsDir v => [0x9F#8, v]
  | .subaIdx v => [0xA0#8, v]
  | .cmpaIdx v => [0xA1#8, v]
  | .sbcaIdx v => [0xA2#8, v]
  | .andaIdx v => [0xA4#8, v]
  | .bitaIdx v => [0xA5#8, v]
  | .ldaaIdx v => [0xA6#8, v]
  | .staaIdx v => [0xA7#8, v]
  | .eoraIdx v => [0xA8#8, v]
  | .adcaIdx v => [0xA9#8, v]
  | .oraaIdx v => [0xAA#8, v]
  | .addaIdx v => [0xAB#8, v]
  | .cpxIdx v => [0xAC#8, v]
  | .jsrIdx v => [0xAD#8, v]
  | .ldsIdx v => [0xAE#8, v]
  | .stsIdx v => [0xAF#8, v]
  | .subaExt w => encodeWord 0xB0#8 w
  | .cmpaExt w => encodeWord 0xB1#8 w
  | .sbcaExt w => encodeWord 0xB2#8 w
  | .andaExt w => encodeWord 0xB4#8 w
  | .bitaExt w => encodeWord 0xB5#8 w
  | .ldaaExt w => encodeWord 0xB6#8 w
  | .staaExt w => encodeWord 0xB7#8 w
  | .eoraExt w => encodeWord 0xB8#8 w
  | .adcaExt w => encodeWord 0xB9#8 w
  | .oraaExt w => encodeWord 0xBA#8 w
  | .addaExt w => encodeWord 0xBB#8 w
  | .cpxExt w => encodeWord 0xBC#8 w
  | .jsrExt w => encodeWord 0xBD#8 w
  | .ldsExt w => encodeWord 0xBE#8 w
  | .stsExt w => encodeWord 0xBF#8 w
  | .subbImm v => [0xC0#8, v]
  | .cmpbImm v => [0xC1#8, v]
  | .sbcbImm v => [0xC2#8, v]
  | .andbImm v => [0xC4#8, v]
  | .bitbImm v => [0xC5#8, v]
  | .ldabImm v => [0xC6#8, v]
  | .eorbImm v => [0xC8#8, v]
  | .adcbImm v => [0xC9#8, v]
  | .orabImm v => [0xCA#8, v]
  | .addbImm v => [0xCB#8, v]
  | .ldxImm w => encodeWord 0xCE#8 w
  | .subbDir v => [0xD0#8, v]
  | .cmpbDir v => [0xD1#8, v]
  | .sbcbDir v => [0xD2#8, v]
  | .andbDir v => [0xD4#8, v]
  | .bitbDir v => [0xD5#8, v]
  | .ldabDir v => [0xD6#8, v]
  | .stabDir v => [0xD7#8, v]
  | .eorbDir v => [0xD8#8, v]
  | .adcbDir v => [0xD9#8, v]
  | .orabDir v => [0xDA#8, v]
  | .addbDir v => [0xDB#8, v]
  | .ldxDir v => [0xDE#8, v]
  | .stxDir v => [0xDF#8, v]
  | .subbIdx v => [0xE0#8, v]
  | .cmpbIdx v => [0xE1#8, v]
  | .sbcbIdx v => [0xE2#8, v]
  | .andbIdx v => [0xE4#8, v]
  | .bitbIdx v => [0xE5#8, v]
  | .ldabIdx v => [0xE6#8, v]
  | .stabIdx v => [0xE7#8, v]
  | .eorbIdx v => [0xE8#8, v]
  | .adcbIdx v => [0xE9#8, v]
  | .orabIdx v => [0xEA#8, v]
  | .addbIdx v => [0xEB#8, v]
  | .ldxIdx v => [0xEE#8, v]
  | .stxIdx v => [0xEF#8, v]
  | .subbExt w => encodeWord 0xF0#8 w
  | .cmpbExt w => encodeWord 0xF1#8 w
  | .sbcbExt w => encodeWord 0xF2#8 w
  | .andbExt w => encodeWord 0xF4#8 w
  | .bitbExt w => encodeWord 0xF5#8 w
  | .ldabExt w => encodeWord 0xF6#8 w
  | .stabExt w => encodeWord 0xF7#8 w
  | .eorbExt w => encodeWord 0xF8#8 w
  | .adcbExt w => encodeWord 0xF9#8 w
  | .orabExt w => encodeWord 0xFA#8 w
  | .addbExt w => encodeWord 0xFB#8 w
  | .ldxExt w => encodeWord 0xFE#8 w
  | .stxExt w => encodeWord 0xFF#8 w

/-- The three bytes of a table word (bit 0 is the least significant bit of the FIRST byte), every bit from `nbits` on
being 0; three bytes is the longest instruction (R104). -/
def tableBytes (nbits w : Nat) : List Byte :=
  let v := w % 2 ^ nbits
  [BitVec.ofNat 8 v, BitVec.ofNat 8 (v / 256), BitVec.ofNat 8 (v / 65536)]

/-- The instruction the decoder reads from a table word. -/
def decodeTableWord (nbits w : Nat) : Option Instr :=
  match decode (tableBytes nbits w) with
  | .ok (i, _) => some i
  | .error _ => none

end Sys2Proof
end

