-- ==== Sys2Proof/Machine/Memory.lean ====
section
/-! DEFINITION. The backing store `mem[0..65535]` (R50) as a list of cells in one canonical form: addresses strictly
rising and below 65,536, and no entry equal to what an unlisted address reads as. -/

namespace Sys2Proof

/-- The backing store (R50, R77). -/
abbrev Memory := List Host.Cell

/-- What an unlisted byte of `mem` reads as: 0x00 (DESIGN CHOICE, log 2; R77 gives the bytes to the host). -/
def Memory.unlisted : Byte := 0x00#8

/-- The cell at a key, or the unlisted value. -/
def Memory.lookup : Memory → Nat → Byte
  | [], _ => Memory.unlisted
  | (k, v) :: m, n => if k = n then v else Memory.lookup m n

/-- `mem[a]` (R50). -/
def Memory.read (m : Memory) (a : Word) : Byte :=
  Memory.lookup m a.toNat

/-- Put a value at a key, keeping the keys in rising order. -/
def Memory.insert : Memory → Nat → Byte → Memory
  | [], n, v => [(n, v)]
  | (k, w) :: m, n, v =>
    if n < k then (n, v) :: (k, w) :: m
    else if n = k then (n, v) :: m
    else (k, w) :: Memory.insert m n v

/-- Drop what is listed at a key. -/
def Memory.erase : Memory → Nat → Memory
  | [], _ => []
  | (k, w) :: m, n => if k = n then Memory.erase m n else (k, w) :: Memory.erase m n

/-- `mem[a] <- v` (R50); writing the unlisted value drops the entry, so that equal stores are equal lists. -/
def Memory.write (m : Memory) (a : Word) (v : Byte) : Memory :=
  if v = Memory.unlisted then Memory.erase m a.toNat else Memory.insert m a.toNat v

/-- The canonical form of the cells whose keys are at least `lo`. -/
def Memory.wfFrom : Nat → Memory → Bool
  | _, [] => true
  | lo, (k, v) :: m => decide (lo ≤ k) && decide (k < 65536) && decide (v ≠ Memory.unlisted) && Memory.wfFrom (k + 1) m

/-- The canonical form: keys strictly rising and below 65,536, no unlisted value listed. -/
def Memory.wf (m : Memory) : Bool :=
  Memory.wfFrom 0 m

/-- The bytes of a list stored at rising addresses from `a` on, modulo 65536: how a host loads an image (R420). -/
def Memory.load : Memory → Word → List Byte → Memory
  | m, _, [] => m
  | m, a, v :: vs => Memory.load (Memory.write m a v) (a + 1#16) vs

end Sys2Proof
end

