-- ==== Sys2Proof/Machine/State.lean ====
section
/-! DEFINITION. The state of the machine, as plain data: the register file (R21), the six flags (R35), the pending latch
(R41), the budget counter (R43), the stop reason (R45), and the memory side: `mem`, `MEMMAP`, `HANDLERS` and the
handlers' hidden state (R50, R51, R66). With it the state right after reset (R410), and the named updates. -/

namespace Sys2Proof.Machine

/-- The six flags of `P6800` (R35), one bit each and nothing else (R34). -/
structure Flags where
  h : Bool
  i : Bool
  n : Bool
  z : Bool
  v : Bool
  c : Bool
  deriving DecidableEq, Repr

/-- The latch `pend` (R41, R42). -/
structure Pend where
  nmi : Bool
  irq : Bool
  deriving DecidableEq, Repr

/-- Why the last step of the host ended (R45); `none` before the first. -/
inductive Stop where
  | none
  | budgetExhausted
  | illegalOpcode
  | wait
  deriving DecidableEq, Repr

/-- Where the next turn of the run loop of R133 begins (the model's own field, log 6): label `L0`, or label `L1` entered
from a `WAI` that found a pending bit, with `ack = ACK_COST_AFTER_WAIT` (R138). -/
inductive LoopPoint where
  | top
  | afterWait
  deriving DecidableEq, Repr

/-- The memory side of the machine: exactly what a device handler may see and change (R66). -/
structure Bus where
  mem      : Memory
  map      : MemMap
  handlers : List HandlerId
  dev      : DevState
  deriving DecidableEq, Repr

/-- The machine. `budgetIn`, `loop` and `resets` are the model's own fields (INVENTORY.md, State). -/
structure State where
  a        : Byte
  b        : Byte
  x        : Word
  sp       : Word
  pc       : Word
  cc       : Flags
  pend     : Pend
  budget   : Int
  budgetIn : Int
  stop     : Stop
  loop     : LoopPoint
  bus      : Bus
  resets   : Nat
  deriving DecidableEq, Repr

/-- Why a map is rejected (R87, D25). -/
inductive Misconfig where
  /-- Two segments share an address. -/
  | overlap
  /-- A segment exceeds the 64K address space. -/
  | pastEnd
  /-- A Device segment names no registered handler. -/
  | noHandler
  deriving DecidableEq, Repr

/-- The hard failures. The block raises no synchronous exception (R369), so no step and no meaning ever answers a fault. -/
inductive Fault where
  /-- The construction of a memory map was refused (R87): "the only place a hard failure is appropriate". Raised by the
  host-port operations that build a map (`configure`, `registerHandler`), never by a step. Safe: the spec names it. -/
  | misconfiguration (why : Misconfig)
  deriving DecidableEq, Repr

/-- The refusals. -/
inductive Refusal where
  /-- Raised by `exec`'s arm of an instruction that has no meaning yet. Safe. No arm of this model raises it. -/
  | notModelled (mnemonic : String)
  deriving DecidableEq, Repr

/-- The flags after reset (R410, R411): `I = 1`, the other five 0. -/
def Flags.reset : Flags :=
  { h := false, i := true, n := false, z := false, v := false, c := false }

/-- No pending bit. -/
def Pend.none : Pend :=
  { nmi := false, irq := false }

/-- One RAM segment over the whole address space, the map of the spec's base state (95_test_vectors.md section 2). -/
def wholeRam : MemMap :=
  [{ base := 0x0000#16, length := 65536, kind := .ram }]

/-- The memory side of `State.reset`: nothing listed (log 2), all RAM and no handler (log 3; DESIGN CHOICE: R51 makes
them the host's). -/
def Bus.reset : Bus :=
  { mem := [], map := wholeRam, handlers := [], dev := 0 }

/-- The machine right after reset (R410 to R413). `pc` is the word `MemRead(VEC_RESET, 2)` of this memory, 0x0000.
`a`, `b`, `x`, `sp` are DESIGN CHOICE (log 1: R412 leaves them unspecified), `pend`, `budget`, `budgetIn` are DESIGN
CHOICE (log 4: reset does not write them and no step is in progress). -/
def State.reset : State :=
  { a := 0x00#8, b := 0x00#8, x := 0x0000#16, sp := 0x0000#16, pc := 0x0000#16, cc := Flags.reset,
    pend := Pend.none, budget := 0, budgetIn := 0, stop := .none, loop := .top, bus := Bus.reset, resets := 0 }

/-- `x[A] <- v` (R12). -/
def State.setA (s : State) (v : Byte) : State := { s with a := v }

/-- `x[B] <- v` (R12). -/
def State.setB (s : State) (v : Byte) : State := { s with b := v }

/-- `x[X] <- v` (R12). -/
def State.setX (s : State) (v : Word) : State := { s with x := v }

/-- `x[SP] <- v` (R12). -/
def State.setSp (s : State) (v : Word) : State := { s with sp := v }

/-- `pc <- v` (R12). -/
def State.setPc (s : State) (v : Word) : State := { s with pc := v }

/-- The six flags written together. -/
def State.setCc (s : State) (v : Flags) : State := { s with cc := v }

/-- The pending latch written. -/
def State.setPend (s : State) (v : Pend) : State := { s with pend := v }

/-- `budget <- v` (R43). -/
def State.setBudget (s : State) (v : Int) : State := { s with budget := v }

/-- `stop <- v` (R45). -/
def State.setStop (s : State) (v : Stop) : State := { s with stop := v }

/-- The point of the run loop written (R133). -/
def State.setLoop (s : State) (v : LoopPoint) : State := { s with loop := v }

/-- The memory side written. -/
def State.setBus (s : State) (v : Bus) : State := { s with bus := v }

end Sys2Proof.Machine
end

