-- ==== Sys2Proof/Machine/Flags.lean ====
section
/-! DEFINITION. The ALU and condition-flag primitives (R160 to R185): pure functions from operands and the prior flags
they name to a result and a value for each flag they return; the flags image (R36); and the ways a primitive's flags are
written into `CC`. -/

namespace Sys2Proof.Machine

/-- The result of `ADD8`: it returns `H` too (R161, R163). -/
structure Hnzvc where
  result : Byte
  h : Bool
  n : Bool
  z : Bool
  v : Bool
  c : Bool
  deriving DecidableEq, Repr

/-- A result with `N`, `Z`, `V`, `C`. -/
structure Nzvc where
  result : Byte
  n : Bool
  z : Bool
  v : Bool
  c : Bool
  deriving DecidableEq, Repr

/-- A result with `N`, `Z`, `V`. -/
structure Nzv where
  result : Byte
  n : Bool
  z : Bool
  v : Bool
  deriving DecidableEq, Repr

/-- The flags a 16-bit primitive returns (R183). -/
structure Nzv16 where
  n : Bool
  z : Bool
  v : Bool
  deriving DecidableEq, Repr

/-- `H`, `N`, `Z`, `V`, `C` written, `I` unchanged. -/
def Flags.withHnzvc (f : Flags) (r : Hnzvc) : Flags :=
  { f with h := r.h, n := r.n, z := r.z, v := r.v, c := r.c }

/-- `N`, `Z`, `V`, `C` written, `H` and `I` unchanged. -/
def Flags.withNzvc (f : Flags) (r : Nzvc) : Flags :=
  { f with n := r.n, z := r.z, v := r.v, c := r.c }

/-- `N`, `Z`, `V` written, `H`, `I` and `C` unchanged. -/
def Flags.withNzv (f : Flags) (r : Nzv) : Flags :=
  { f with n := r.n, z := r.z, v := r.v }

/-- `N`, `Z`, `V` written from a 16-bit primitive, `H`, `I` and `C` unchanged. -/
def Flags.withNzv16 (f : Flags) (r : Nzv16) : Flags :=
  { f with n := r.n, z := r.z, v := r.v }

/-- The flags of a logical operation: `N`, `Z`, `V` written and `H` cleared only if `LOGIC_CLEARS_H` (R167). -/
def Flags.withLogic (f : Flags) (r : Nzv) : Flags :=
  { f with h := if Config.logicClearsH then false else f.h, n := r.n, z := r.z, v := r.v }

/-- The flags image `1 : 1 : H : I : N : Z : V : C` (R36). -/
def Flags.image (f : Flags) : Byte :=
  0b11#2 ++ BitVec.ofBool f.h ++ BitVec.ofBool f.i ++ BitVec.ofBool f.n ++ BitVec.ofBool f.z ++ BitVec.ofBool f.v ++
    BitVec.ofBool f.c

/-- A byte moved into the flags: bits 5 to 0 are loaded, bits 7 and 6 are ignored (R36). -/
def Flags.ofImage (v : Byte) : Flags :=
  { h := v.getLsbD 5, i := v.getLsbD 4, n := v.getLsbD 3, z := v.getLsbD 2, v := v.getLsbD 1, c := v.getLsbD 0 }

/-- The 8-bit overflow formula of the source (R162): `bit7((a ^ b ^ r) ^ (r >> 1))`, with `r` the sum or difference
before truncation. -/
def overflow8 (a b : Byte) (r : BitVec 16) : Bool :=
  ((a.zeroExtend 16 ^^^ b.zeroExtend 16 ^^^ r) ^^^ (r >>> 1)).getLsbD 7

/-- The half-carry formula (R163): bit 4 of `a ^ b ^ s`. -/
def halfCarry8 (a b : Byte) (s : BitVec 16) : Bool :=
  (a.zeroExtend 16 ^^^ b.zeroExtend 16 ^^^ s).getLsbD 4

/-- `ADD8(a, b, cin)` (R161). -/
def add8 (a b : Byte) (cin : Bool) : Hnzvc :=
  let s := BitVec.ofNat 16 (a.toNat + b.toNat + cin.toNat)
  { result := s.setWidth 8
    h := halfCarry8 a b s
    n := s.getLsbD 7
    z := s.setWidth 8 == 0x00#8
    v := overflow8 a b s
    c := s.getLsbD 8 }

/-- Carry from a borrow (R164, R165). -/
def carryOfBorrow : BorrowPolarity → Bool → Bool
  | .carryIsBorrow, borrow => borrow
  | .carryIsNotBorrow, borrow => !borrow

/-- `SUB8(a, b, bin)` (R164): the difference is taken over the integers and reduced modulo 65536. -/
def sub8 (polarity : BorrowPolarity) (a b : Byte) (bin : Bool) : Nzvc :=
  let s := BitVec.ofInt 16 ((a.toNat : Int) - (b.toNat : Int) - (bin.toNat : Int))
  { result := s.setWidth 8
    n := s.getLsbD 7
    z := s.setWidth 8 == 0x00#8
    v := overflow8 a b s
    c := carryOfBorrow polarity (s.getLsbD 8) }

/-- `CMP8(a, b)` (R166): `SUB8(a, b, 0)`, of which a compare uses the flags only. -/
def cmp8 (polarity : BorrowPolarity) (a b : Byte) : Nzvc :=
  sub8 polarity a b false

/-- `SUB16(a, b)` (R183): the flags of the 16-bit difference, taken modulo 2^32. -/
def sub16 (a b : Word) : Nzv16 :=
  let s := BitVec.ofInt 32 ((a.toNat : Int) - (b.toNat : Int))
  { n := s.getLsbD 15
    z := s.setWidth 16 == 0x0000#16
    v := a.getLsbD 15 ^^ b.getLsbD 15 ^^ s.getLsbD 15 ^^ s.getLsbD 16 }

/-- `NZ16(w)` with `V = 0`: the flag rule of a 16-bit load or store (R17, R183, R206). -/
def mov16 (w : Word) : Nzv16 :=
  { n := w.getLsbD 15, z := w == 0x0000#16, v := false }

/-- `MOV8(v)`: the flag rule of an 8-bit load, store or transfer (R169). -/
def mov8 (v : Byte) : Nzv :=
  { result := v, n := v.getLsbD 7, z := v == 0x00#8, v := false }

/-- `AND8` (R167). -/
def and8 (a b : Byte) : Nzv :=
  { result := a &&& b, n := (a &&& b).getLsbD 7, z := (a &&& b) == 0x00#8, v := false }

/-- `OR8` (R167). -/
def or8 (a b : Byte) : Nzv :=
  { result := a ||| b, n := (a ||| b).getLsbD 7, z := (a ||| b) == 0x00#8, v := false }

/-- `XOR8` (R167). -/
def xor8 (a b : Byte) : Nzv :=
  { result := a ^^^ b, n := (a ^^^ b).getLsbD 7, z := (a ^^^ b) == 0x00#8, v := false }

/-- `BIT8(a, m)` (R168): the flags of `a & m`, or in `copy_top_bits` mode `N` and `V` from the operand. -/
def bit8 (mode : BitMode) (a m : Byte) : Nzv :=
  match mode with
  | .resultOnly => { result := a &&& m, n := (a &&& m).getLsbD 7, z := (a &&& m) == 0x00#8, v := false }
  | .copyTopBits => { result := a &&& m, n := m.getLsbD 7, z := (a &&& m) == 0x00#8, v := m.getLsbD 6 }

/-- The flags of a shift or rotate from its result and the bit shifted out, with the "funny rule" `V = N ^ C` of the new
values (R172). -/
def shifted (result : Byte) (c : Bool) : Nzvc :=
  { result := result, n := result.getLsbD 7, z := result == 0x00#8, v := result.getLsbD 7 ^^ c, c := c }

/-- `ASL8(v)` (R170). -/
def asl8 (v : Byte) : Nzvc :=
  shifted (v.extractLsb' 0 7 ++ 0#1) (v.getLsbD 7)

/-- `ASR8(v)` (R171): bit 7 is kept. -/
def asr8 (v : Byte) : Nzvc :=
  shifted (v.extractLsb' 7 1 ++ v.extractLsb' 1 7) (v.getLsbD 0)

/-- `LSR8(v)` (R173). -/
def lsr8 (v : Byte) : Nzvc :=
  shifted (0#1 ++ v.extractLsb' 1 7) (v.getLsbD 0)

/-- `ROL8(v, cin)` (R174). -/
def rol8 (v : Byte) (cin : Bool) : Nzvc :=
  shifted (v.extractLsb' 0 7 ++ BitVec.ofBool cin) (v.getLsbD 7)

/-- `ROR8(v, cin)` (R175). -/
def ror8 (v : Byte) (cin : Bool) : Nzvc :=
  shifted (BitVec.ofBool cin ++ v.extractLsb' 1 7) (v.getLsbD 0)

/-- The correction byte of `DAA8` (R177). -/
def daaCorrection (a : Byte) (cin hin : Bool) : Nat :=
  let hi := a.toNat / 16
  let lo := a.toNat % 16
  (if lo > 9 ∨ hin = true then 0x06 else 0) + (if (hi > 8 ∧ lo > 9) ∨ hi > 9 ∨ cin = true then 0x60 else 0)

/-- `DAA8(a, Cin, Hin)` (R177): it can set Carry and never clears it; `V = 0` (log 12). -/
def daa8 (a : Byte) (cin hin : Bool) : Nzvc :=
  let t := BitVec.ofNat 16 (a.toNat + daaCorrection a cin hin)
  { result := t.setWidth 8
    n := t.getLsbD 7
    z := t.setWidth 8 == 0x00#8
    v := false
    c := cin || t.getLsbD 8 }

/-- `INC8(v)` (R178). -/
def inc8 (v : Byte) : Nzv :=
  { result := v + 1#8, n := (v + 1#8).getLsbD 7, z := (v + 1#8) == 0x00#8, v := v == 0x7F#8 }

/-- `DEC8(v)` (R179). -/
def dec8 (v : Byte) : Nzv :=
  { result := v - 1#8, n := (v - 1#8).getLsbD 7, z := (v - 1#8) == 0x00#8, v := v == 0x80#8 }

/-- `NEG8(v)` (R180): `SUB8(0x00, v, 0)`. -/
def neg8 (polarity : BorrowPolarity) (v : Byte) : Nzvc :=
  sub8 polarity 0x00#8 v false

/-- `COM8(v)` (R181). -/
def com8 (v : Byte) : Nzvc :=
  { result := ~~~v, n := (~~~v).getLsbD 7, z := (~~~v) == 0x00#8, v := false, c := true }

/-- `CLR8()` (R182). -/
def clr8 : Nzvc :=
  { result := 0x00#8, n := false, z := true, v := false, c := false }

/-- `TST8(v)` (R182): no result is used. -/
def tst8 (v : Byte) : Nzvc :=
  { result := v, n := v.getLsbD 7, z := v == 0x00#8, v := false, c := false }

/-! The operations an instruction applies to an accumulator and an operand, or to one byte: the result, and the flags as
the instruction writes them. -/

/-- ADD and ABA (R240, R242). -/
def aluAdd (a m : Byte) (f : Flags) : Byte × Flags :=
  let o := add8 a m false
  (o.result, f.withHnzvc o)

/-- ADC (R241). -/
def aluAdc (a m : Byte) (f : Flags) : Byte × Flags :=
  let o := add8 a m f.c
  (o.result, f.withHnzvc o)

/-- SUB and SBA (R243, R245). -/
def aluSub (a m : Byte) (f : Flags) : Byte × Flags :=
  let o := sub8 Config.borrowPolarity a m false
  (o.result, f.withNzvc o)

/-- SBC (R244). -/
def aluSbc (a m : Byte) (f : Flags) : Byte × Flags :=
  let o := sub8 Config.borrowPolarity a m f.c
  (o.result, f.withNzvc o)

/-- AND (R280). -/
def aluAnd (a m : Byte) (f : Flags) : Byte × Flags :=
  let o := and8 a m
  (o.result, f.withLogic o)

/-- ORA (R281). -/
def aluOra (a m : Byte) (f : Flags) : Byte × Flags :=
  let o := or8 a m
  (o.result, f.withLogic o)

/-- EOR (R282). -/
def aluEor (a m : Byte) (f : Flags) : Byte × Flags :=
  let o := xor8 a m
  (o.result, f.withLogic o)

/-- LDA: the operand replaces the accumulator (R204). -/
def aluLda (_ m : Byte) (f : Flags) : Byte × Flags :=
  (m, f.withNzv (mov8 m))

/-- CMP and CBA write flags only (R246, R247). -/
def testCmp (a m : Byte) (f : Flags) : Flags :=
  f.withNzvc (cmp8 Config.borrowPolarity a m)

/-- BIT writes flags only (R283). -/
def testBit (a m : Byte) (f : Flags) : Flags :=
  f.withLogic (bit8 Config.bitMode a m)

/-- NEG (R248). -/
def unaryNeg (v : Byte) (f : Flags) : Byte × Flags :=
  let o := neg8 Config.borrowPolarity v
  (o.result, f.withNzvc o)

/-- COM (R284). -/
def unaryCom (v : Byte) (f : Flags) : Byte × Flags :=
  let o := com8 v
  (o.result, f.withNzvc o)

/-- LSR (R287). -/
def unaryLsr (v : Byte) (f : Flags) : Byte × Flags :=
  let o := lsr8 v
  (o.result, f.withNzvc o)

/-- ROR (R289). -/
def unaryRor (v : Byte) (f : Flags) : Byte × Flags :=
  let o := ror8 v f.c
  (o.result, f.withNzvc o)

/-- ASR (R286). -/
def unaryAsr (v : Byte) (f : Flags) : Byte × Flags :=
  let o := asr8 v
  (o.result, f.withNzvc o)

/-- ASL (R285). -/
def unaryAsl (v : Byte) (f : Flags) : Byte × Flags :=
  let o := asl8 v
  (o.result, f.withNzvc o)

/-- ROL (R288). -/
def unaryRol (v : Byte) (f : Flags) : Byte × Flags :=
  let o := rol8 v f.c
  (o.result, f.withNzvc o)

/-- DEC (R250). -/
def unaryDec (v : Byte) (f : Flags) : Byte × Flags :=
  let o := dec8 v
  (o.result, f.withNzv o)

/-- INC (R249). -/
def unaryInc (v : Byte) (f : Flags) : Byte × Flags :=
  let o := inc8 v
  (o.result, f.withNzv o)

/-- DAA (R251). -/
def unaryDaa (v : Byte) (f : Flags) : Byte × Flags :=
  let o := daa8 v f.c f.h
  (o.result, f.withNzvc o)

/-- TST writes flags only (R252). -/
def testTst (v : Byte) (f : Flags) : Flags :=
  f.withNzvc (tst8 v)

end Sys2Proof.Machine
end

