-- ==== Sys2Proof/Machine/Router.lean ====
section
/-! DEFINITION. The memory router (R60 to R66): one byte access is resolved in `MEMMAP` afresh and becomes a RAM access,
a ROM access, a device-handler call, or the unmapped default. -/

namespace Sys2Proof.Machine

/-- `Resolve(a)` (R61): the kind of the first segment that contains the address; `none` is Unmapped. -/
def resolve : MemMap → Word → Option SegKind
  | [], _ => none
  | g :: m, a => if g.contains a then some g.kind else resolve m a

/-- What a handler call leaves behind, taken into the memory side (R66). A map that is not well formed is rejected, as at
construction (R87), and the old map and handler table stay (DEDUCED, log 8). -/
def Bus.absorb (b : Bus) (e : DeviceEffect) : Bus :=
  { mem := e.writes.foldl (fun m w => Memory.write m w.1 w.2) b.mem
    map := if MemMap.wf e.map e.handlers then e.map else b.map
    handlers := if MemMap.wf e.map e.handlers then e.handlers else b.handlers
    dev := e.dev }

/-- `HANDLERS[h].read(a)` (R63, R66): the byte and the memory side after the call. -/
def Bus.callRead (b : Bus) (h : HandlerId) (a : Word) : Byte × Bus :=
  let r := Config.deviceRead h a b.dev b.map b.handlers b.mem
  (r.1, b.absorb r.2)

/-- `HANDLERS[h].write(a, v)` (R64, R66). -/
def Bus.callWrite (b : Bus) (h : HandlerId) (a : Word) (v : Byte) : Bus :=
  b.absorb (Config.deviceWrite h a v b.dev b.map b.handlers b.mem)

/-- The routed byte read (R63): an unmapped address reads 0x00. -/
def Bus.read (b : Bus) (a : Word) : Byte × Bus :=
  match resolve b.map a with
  | none => (0x00#8, b)
  | some .ram => (b.mem.read a, b)
  | some .rom => (b.mem.read a, b)
  | some (.device h) => b.callRead h a

/-- The routed byte write (R64): ROM and unmapped addresses drop it. -/
def Bus.write (b : Bus) (a : Word) (v : Byte) : Bus :=
  match resolve b.map a with
  | none => b
  | some .ram => { b with mem := b.mem.write a v }
  | some .rom => b
  | some (.device h) => b.callWrite h a v

/-- The address is not in a Device segment, so that an access to it calls no handler (R74). -/
def Bus.plain (b : Bus) (a : Word) : Bool :=
  match resolve b.map a with
  | some (.device _) => false
  | _ => true

end Sys2Proof.Machine
end

