-- ==== Sys2Proof/Machine/Ops.lean ====
section
/-! DEFINITION. The named operations over memory, stack, budget and interrupts that every meaning is written with: routed
byte and word accesses (R63 to R69), push and pull (R200 to R203), the budget charge (R140), interrupt entry (R366),
return from interrupt (R341), the arbiter (R361) and the two halts (R137, R138). -/

namespace Sys2Proof.Machine

/-- `MemRead(a, 1)` (R63). -/
def memRead (a : Word) (s : State) : Byte × State :=
  let r := s.bus.read a
  (r.1, s.setBus r.2)

/-- `MemWrite(a, 1, v)` (R64). -/
def memWrite (a : Word) (v : Byte) (s : State) : State :=
  s.setBus (s.bus.write a v)

/-- `MemRead(a, 2)` (R68): the byte at `a` first, then the byte at `a + 1` modulo 65536, each routed on its own. -/
def readWord (a : Word) (s : State) : Word × State :=
  let r0 := memRead a s
  let r1 := memRead (a + 1#16) r0.2
  (wordOfBytes Config.endian r0.1 r1.1, r1.2)

/-- `MemWrite(a, 2, v)` (R69): the byte at `a` first, then the byte at `a + 1` modulo 65536. -/
def writeWord (a : Word) (v : Word) (s : State) : State :=
  memWrite (a + 1#16) (secondByte Config.endian v) (memWrite a (firstByte Config.endian v) s)

/-- `Push8(v)` (R200): the byte is stored, then the pointer moves down. -/
def push8 (v : Byte) (s : State) : State :=
  (memWrite s.sp v s).setSp (s.sp - 1#16)

/-- `Pull8()` (R201): the pointer moves up, then the byte is read. -/
def pull8 (s : State) : Byte × State :=
  memRead (s.sp + 1#16) (s.setSp (s.sp + 1#16))

/-- `Push16(v)` (R202): the low byte first, so that it lies at the higher address. -/
def push16 (v : Word) (s : State) : State :=
  push8 (highByte v) (push8 (lowByte v) s)

/-- `Pull16()` (R203): the high byte first. -/
def pull16 (s : State) : Word × State :=
  let r0 := pull8 s
  let r1 := pull8 r0.2
  (r0.1 ++ r1.1, r1.2)

/-- `budget <- budget - n` (R16, R140). -/
def charge (n : Nat) (s : State) : State :=
  s.setBudget (s.budget - (n : Int))

/-- `CC.I <- v`. -/
def setIMask (v : Bool) (s : State) : State :=
  s.setCc { s.cc with i := v }

/-- The seven pushes of an interrupt entry (R366, R340): PC, X, A, B, and the flags image as it was before `I` is set. -/
def pushFrame (s : State) : State :=
  push8 s.cc.image (push8 s.b (push8 s.a (push16 s.x (push16 s.pc s))))

/-- `pc <- MemRead(v, 2)`: the vector read of an entry or a reset (R366, R410). -/
def loadVector (v : Word) (s : State) : State :=
  let r := readWord v s
  r.2.setPc r.1

/-- TAKING AN EXCEPTION, the one shared entry of NMI, IRQ and SWI (R366, R340): push the frame, set `I`, charge the
cost, load `pc` from the vector. `P6800` has no Decimal flag to clear (R367). -/
def enterInterrupt (vector : Word) (cost : Nat) (s : State) : State :=
  loadVector vector (charge cost (setIMask true (pushFrame s)))

/-- The register pulls of a return from interrupt (R341): flags, B, A, X, PC. -/
def returnFromInterrupt (s : State) : State :=
  let r0 := pull8 s
  let s0 := r0.2.setCc (Flags.ofImage r0.1)
  let r1 := pull8 s0
  let s1 := r1.2.setB r1.1
  let r2 := pull8 s1
  let s2 := r2.2.setA r2.1
  let r3 := pull16 s2
  let s3 := r3.2.setX r3.1
  let r4 := pull16 s3
  r4.2.setPc r4.1

/-- An NMI is pending, or an IRQ is pending and not masked (R361 to R363). -/
def serviceable (s : State) : Bool :=
  s.pend.nmi || (s.pend.irq && !s.cc.i)

/-- `Arbitrate(ack)` (R361): at most one interrupt is serviced, NMI before IRQ, and its pending bit is cleared after the
entry (R365). -/
def arbitrate (ack : Nat) (s : State) : State :=
  if s.pend.nmi then
    (enterInterrupt Config.vecNmi ack s).setPend { s.pend with nmi := false }
  else if s.pend.irq && !s.cc.i then
    (enterInterrupt Config.vecIrq ack s).setPend { s.pend with irq := false }
  else s

/-- The acknowledge cost at a boundary (R133, R138). -/
def ackCost : LoopPoint → Nat
  | .top => Config.intAckCost
  | .afterWait => Config.ackCostAfterWait

/-- `Halt(IllegalOpcode)` (R137), after the opcode fetch: the budget is zeroed and the stop reason is set. -/
def haltIllegal (s : State) : State :=
  (s.setBudget 0).setStop .illegalOpcode

/-- `Halt(Wait)` (R138), with `pc` one past the wait opcode: `pc` goes back to the opcode, the budget is zeroed, the stop
reason is set, nothing is charged. -/
def haltWait (s : State) : State :=
  ((s.setPc (s.pc - 1#16)).setBudget 0).setStop .wait

/-- The run of the host's step is over at this turn of the loop: `L0` finds `budget <= 0` (R133, R136). -/
def ended (s : State) : Bool :=
  decide (s.loop = .top) && decide (s.budget ≤ 0)

end Sys2Proof.Machine
end

