-- ==== Sys2Proof/Machine/Operands.lean ====
section
/-! DEFINITION. Operand forms: the accumulators, the effective addresses (R142 to R147), the operand helpers of R148, and
the shapes of instruction written once over them. -/

namespace Sys2Proof.Machine

/-- The two accumulators (R21). -/
inductive Acc where
  | a
  | b
  deriving DecidableEq, Repr

/-- `x[r]` (R12). -/
def State.acc (s : State) : Acc → Byte
  | .a => s.a
  | .b => s.b

/-- `x[r] <- v` (R12). -/
def State.setAcc (s : State) (r : Acc) (v : Byte) : State :=
  match r with
  | .a => s.setA v
  | .b => s.setB v

/-- The memory addressing modes with their fetched operand (R104, R105). -/
inductive MemMode where
  | dir (dir8 : Byte)
  | idx (off8 : Byte)
  | ext (addr16 : Word)
  deriving DecidableEq, Repr

/-- The effective address: direct `0x00 : dir8` (R143), indexed `X + off8` unsigned, modulo 65536 (R145), extended (R144). -/
def ea (m : MemMode) (s : State) : Word :=
  match m with
  | .dir d => d.zeroExtend 16
  | .idx o => s.x + o.zeroExtend 16
  | .ext a => a

/-- The target of a relative branch (R146): `pc`, already past the instruction, plus the sign-extended offset. -/
def relTarget (rel8 : Byte) (s : State) : Word :=
  s.pc + rel8.signExtend 16

/-- An 8-bit source operand (R148). -/
inductive Src8 where
  | imm (imm8 : Byte)
  | mem (m : MemMode)
  deriving DecidableEq, Repr

/-- A 16-bit source operand (R148). -/
inductive Src16 where
  | imm (imm16 : Word)
  | mem (m : MemMode)
  deriving DecidableEq, Repr

/-- `Operand8(e)` (R148). -/
def operand8 (src : Src8) (s : State) : Byte × State :=
  match src with
  | .imm v => (v, s)
  | .mem m => memRead (ea m s) s

/-- `Operand16(e)` (R148). -/
def operand16 (src : Src16) (s : State) : Word × State :=
  match src with
  | .imm v => (v, s)
  | .mem m => readWord (ea m s) s

/-- An accumulator operation with a source operand: the result is written to the accumulator (R134). -/
def accOp (op : Byte → Byte → Flags → Byte × Flags) (r : Acc) (src : Src8) (s : State) : State :=
  let q := operand8 src s
  let o := op (q.2.acc r) q.1 q.2.cc
  (q.2.setAcc r o.1).setCc o.2

/-- A compare of an accumulator with a source operand: only flags are written. -/
def accTest (op : Byte → Byte → Flags → Flags) (r : Acc) (src : Src8) (s : State) : State :=
  let q := operand8 src s
  q.2.setCc (op (q.2.acc r) q.1 q.2.cc)

/-- A one-operand operation on an accumulator. -/
def modifyAcc (op : Byte → Flags → Byte × Flags) (r : Acc) (s : State) : State :=
  let o := op (s.acc r) s.cc
  (s.setAcc r o.1).setCc o.2

/-- A read-modify-write of memory (R148): one read, then one write of the same address, computed once. -/
def modifyMem (op : Byte → Flags → Byte × Flags) (m : MemMode) (s : State) : State :=
  let a := ea m s
  let q := memRead a s
  let o := op q.1 q.2.cc
  (memWrite a o.1 q.2).setCc o.2

/-- `TST` of an accumulator (R252). -/
def testAcc (r : Acc) (s : State) : State :=
  s.setCc (testTst (s.acc r) s.cc)

/-- `TST` of memory (R252): one read and no write. -/
def testMem (m : MemMode) (s : State) : State :=
  let q := memRead (ea m s) s
  q.2.setCc (testTst q.1 q.2.cc)

/-- `CLR` of an accumulator (R218). -/
def clearAcc (r : Acc) (s : State) : State :=
  (s.setAcc r clr8.result).setCc (s.cc.withNzvc clr8)

/-- `CLR` of memory (R218): one write and no read. -/
def clearMem (m : MemMode) (s : State) : State :=
  (memWrite (ea m s) clr8.result s).setCc (s.cc.withNzvc clr8)

/-- A store of an accumulator (R205): one write and no read. -/
def storeAcc (r : Acc) (m : MemMode) (s : State) : State :=
  (memWrite (ea m s) (s.acc r) s).setCc (s.cc.withNzv (mov8 (s.acc r)))

/-- `LDX` (R206): in indexed mode the address is computed from the old `X`. -/
def loadX (src : Src16) (s : State) : State :=
  let q := operand16 src s
  (q.2.setX q.1).setCc (q.2.cc.withNzv16 (mov16 q.1))

/-- `LDS` (R207). -/
def loadSp (src : Src16) (s : State) : State :=
  let q := operand16 src s
  (q.2.setSp q.1).setCc (q.2.cc.withNzv16 (mov16 q.1))

/-- `CPX` (R253): only flags are written. -/
def compareX (src : Src16) (s : State) : State :=
  let q := operand16 src s
  q.2.setCc (q.2.cc.withNzv16 (sub16 q.2.x q.1))

/-- A 16-bit store (R208, R209). -/
def storeWord (w : Word) (m : MemMode) (s : State) : State :=
  (writeWord (ea m s) w s).setCc (s.cc.withNzv16 (mov16 w))

/-- `PSH` (R216). -/
def pushAcc (r : Acc) (s : State) : State :=
  push8 (s.acc r) s

/-- `PUL` (R217). -/
def pullAcc (r : Acc) (s : State) : State :=
  let q := pull8 s
  q.2.setAcc r q.1

/-- A conditional branch with its cost (R310, R140): 4, and `BRANCH_TAKEN_EXTRA` more when taken. -/
def condBranch (cond : Bool) (rel8 : Byte) (s : State) : State :=
  if cond then charge (4 + Config.branchTakenExtra) (s.setPc (relTarget rel8 s)) else charge 4 s

/-- A call (R326, R328): the return address is pushed, then `pc` is written. -/
def callTo (target : Word) (s : State) : State :=
  (push16 s.pc s).setPc target

/-- `RTS` (R329): `pc <- Pull16()`. -/
def returnFromCall (s : State) : State :=
  let q := pull16 s
  q.2.setPc q.1

end Sys2Proof.Machine
end

