-- ==== Sys2Proof/Machine/Arithmetic.lean ====
section
/-! DEFINITION. The meanings of the arithmetic, compare, increment, decrement, test, decimal adjust (R240 to R257). At entry `pc` is already past the instruction
(R31); every meaning charges its base cost (R108, R140). -/

namespace Sys2Proof.Machine

/-- `INX` (R254): `X + 1`; only `Z` is written. -/
def execInx (s : State) : Host.Outcome State Fault Refusal :=
  .next (charge 4 ((s.setX (s.x + 1#16)).setCc { s.cc with z := (s.x + 1#16) == 0x0000#16 }))

/-- `DEX` (R255): `X - 1`; only `Z` is written. -/
def execDex (s : State) : Host.Outcome State Fault Refusal :=
  .next (charge 4 ((s.setX (s.x - 1#16)).setCc { s.cc with z := (s.x - 1#16) == 0x0000#16 }))

/-- `SBA` (R245): `A <- A - B`; `B` unchanged. -/
def execSba (s : State) : Host.Outcome State Fault Refusal :=
  .next (charge 2 (accOp aluSub .a (.imm s.b) s))

/-- `CBA` (R247): the flags of `A - B`; no register written. -/
def execCba (s : State) : Host.Outcome State Fault Refusal :=
  .next (charge 2 (s.setCc (testCmp s.a s.b s.cc)))

/-- `DAA` (R251): decimal adjust of `A`. -/
def execDaa (s : State) : Host.Outcome State Fault Refusal :=
  .next (charge 2 (modifyAcc unaryDaa .a s))

/-- `ABA` (R242): `A <- A + B`; `B` unchanged. -/
def execAba (s : State) : Host.Outcome State Fault Refusal :=
  .next (charge 2 (accOp aluAdd .a (.imm s.b) s))

/-- `INS` (R256): `SP + 1`; no flag. -/
def execIns (s : State) : Host.Outcome State Fault Refusal :=
  .next (charge 4 (s.setSp (s.sp + 1#16)))

/-- `DES` (R257): `SP - 1`; no flag. -/
def execDes (s : State) : Host.Outcome State Fault Refusal :=
  .next (charge 4 (s.setSp (s.sp - 1#16)))

/-- `NEGA` (R248). -/
def execNega (s : State) : Host.Outcome State Fault Refusal :=
  .next (charge 2 (modifyAcc unaryNeg .a s))

/-- `DECA` (R250). -/
def execDeca (s : State) : Host.Outcome State Fault Refusal :=
  .next (charge 2 (modifyAcc unaryDec .a s))

/-- `INCA` (R249). -/
def execInca (s : State) : Host.Outcome State Fault Refusal :=
  .next (charge 2 (modifyAcc unaryInc .a s))

/-- `TSTA` (R252). -/
def execTsta (s : State) : Host.Outcome State Fault Refusal :=
  .next (charge 2 (testAcc .a s))

/-- `NEGB` (R248). -/
def execNegb (s : State) : Host.Outcome State Fault Refusal :=
  .next (charge 2 (modifyAcc unaryNeg .b s))

/-- `DECB` (R250). -/
def execDecb (s : State) : Host.Outcome State Fault Refusal :=
  .next (charge 2 (modifyAcc unaryDec .b s))

/-- `INCB` (R249). -/
def execIncb (s : State) : Host.Outcome State Fault Refusal :=
  .next (charge 2 (modifyAcc unaryInc .b s))

/-- `TSTB` (R252). -/
def execTstb (s : State) : Host.Outcome State Fault Refusal :=
  .next (charge 2 (testAcc .b s))

/-- `NEG off8,X` (R248). -/
def execNegIdx (off8 : Byte) (s : State) : Host.Outcome State Fault Refusal :=
  .next (charge 7 (modifyMem unaryNeg (.idx off8) s))

/-- `DEC off8,X` (R250). -/
def execDecIdx (off8 : Byte) (s : State) : Host.Outcome State Fault Refusal :=
  .next (charge 7 (modifyMem unaryDec (.idx off8) s))

/-- `INC off8,X` (R249). -/
def execIncIdx (off8 : Byte) (s : State) : Host.Outcome State Fault Refusal :=
  .next (charge 7 (modifyMem unaryInc (.idx off8) s))

/-- `TST off8,X` (R252). -/
def execTstIdx (off8 : Byte) (s : State) : Host.Outcome State Fault Refusal :=
  .next (charge 7 (testMem (.idx off8) s))

/-- `NEG addr16` (R248). -/
def execNegExt (addr16 : Word) (s : State) : Host.Outcome State Fault Refusal :=
  .next (charge 6 (modifyMem unaryNeg (.ext addr16) s))

/-- `DEC addr16` (R250). -/
def execDecExt (addr16 : Word) (s : State) : Host.Outcome State Fault Refusal :=
  .next (charge 6 (modifyMem unaryDec (.ext addr16) s))

/-- `INC addr16` (R249). -/
def execIncExt (addr16 : Word) (s : State) : Host.Outcome State Fault Refusal :=
  .next (charge 6 (modifyMem unaryInc (.ext addr16) s))

/-- `TST addr16` (R252). -/
def execTstExt (addr16 : Word) (s : State) : Host.Outcome State Fault Refusal :=
  .next (charge 6 (testMem (.ext addr16) s))

/-- `SUBA #imm8` (R243). -/
def execSubaImm (imm8 : Byte) (s : State) : Host.Outcome State Fault Refusal :=
  .next (charge 2 (accOp aluSub .a (.imm imm8) s))

/-- `CMPA #imm8` (R246). -/
def execCmpaImm (imm8 : Byte) (s : State) : Host.Outcome State Fault Refusal :=
  .next (charge 2 (accTest testCmp .a (.imm imm8) s))

/-- `SBCA #imm8` (R244). -/
def execSbcaImm (imm8 : Byte) (s : State) : Host.Outcome State Fault Refusal :=
  .next (charge 2 (accOp aluSbc .a (.imm imm8) s))

/-- `ADCA #imm8` (R241). -/
def execAdcaImm (imm8 : Byte) (s : State) : Host.Outcome State Fault Refusal :=
  .next (charge 2 (accOp aluAdc .a (.imm imm8) s))

/-- `ADDA #imm8` (R240). -/
def execAddaImm (imm8 : Byte) (s : State) : Host.Outcome State Fault Refusal :=
  .next (charge 2 (accOp aluAdd .a (.imm imm8) s))

/-- `CPX #imm16` (R253). -/
def execCpxImm (imm16 : Word) (s : State) : Host.Outcome State Fault Refusal :=
  .next (charge 3 (compareX (.imm imm16) s))

/-- `SUBA dir8` (R243). -/
def execSubaDir (dir8 : Byte) (s : State) : Host.Outcome State Fault Refusal :=
  .next (charge 3 (accOp aluSub .a (.mem (.dir dir8)) s))

/-- `CMPA dir8` (R246). -/
def execCmpaDir (dir8 : Byte) (s : State) : Host.Outcome State Fault Refusal :=
  .next (charge 3 (accTest testCmp .a (.mem (.dir dir8)) s))

/-- `SBCA dir8` (R244). -/
def execSbcaDir (dir8 : Byte) (s : State) : Host.Outcome State Fault Refusal :=
  .next (charge 3 (accOp aluSbc .a (.mem (.dir dir8)) s))

/-- `ADCA dir8` (R241). -/
def execAdcaDir (dir8 : Byte) (s : State) : Host.Outcome State Fault Refusal :=
  .next (charge 3 (accOp aluAdc .a (.mem (.dir dir8)) s))

/-- `ADDA dir8` (R240). -/
def execAddaDir (dir8 : Byte) (s : State) : Host.Outcome State Fault Refusal :=
  .next (charge 3 (accOp aluAdd .a (.mem (.dir dir8)) s))

/-- `CPX dir8` (R253). -/
def execCpxDir (dir8 : Byte) (s : State) : Host.Outcome State Fault Refusal :=
  .next (charge 4 (compareX (.mem (.dir dir8)) s))

/-- `SUBA off8,X` (R243). -/
def execSubaIdx (off8 : Byte) (s : State) : Host.Outcome State Fault Refusal :=
  .next (charge 5 (accOp aluSub .a (.mem (.idx off8)) s))

/-- `CMPA off8,X` (R246). -/
def execCmpaIdx (off8 : Byte) (s : State) : Host.Outcome State Fault Refusal :=
  .next (charge 5 (accTest testCmp .a (.mem (.idx off8)) s))

/-- `SBCA off8,X` (R244). -/
def execSbcaIdx (off8 : Byte) (s : State) : Host.Outcome State Fault Refusal :=
  .next (charge 5 (accOp aluSbc .a (.mem (.idx off8)) s))

/-- `ADCA off8,X` (R241). -/
def execAdcaIdx (off8 : Byte) (s : State) : Host.Outcome State Fault Refusal :=
  .next (charge 5 (accOp aluAdc .a (.mem (.idx off8)) s))

/-- `ADDA off8,X` (R240). -/
def execAddaIdx (off8 : Byte) (s : State) : Host.Outcome State Fault Refusal :=
  .next (charge 5 (accOp aluAdd .a (.mem (.idx off8)) s))

/-- `CPX off8,X` (R253). -/
def execCpxIdx (off8 : Byte) (s : State) : Host.Outcome State Fault Refusal :=
  .next (charge 6 (compareX (.mem (.idx off8)) s))

/-- `SUBA addr16` (R243). -/
def execSubaExt (addr16 : Word) (s : State) : Host.Outcome State Fault Refusal :=
  .next (charge 4 (accOp aluSub .a (.mem (.ext addr16)) s))

/-- `CMPA addr16` (R246). -/
def execCmpaExt (addr16 : Word) (s : State) : Host.Outcome State Fault Refusal :=
  .next (charge 4 (accTest testCmp .a (.mem (.ext addr16)) s))

/-- `SBCA addr16` (R244). -/
def execSbcaExt (addr16 : Word) (s : State) : Host.Outcome State Fault Refusal :=
  .next (charge 4 (accOp aluSbc .a (.mem (.ext addr16)) s))

/-- `ADCA addr16` (R241). -/
def execAdcaExt (addr16 : Word) (s : State) : Host.Outcome State Fault Refusal :=
  .next (charge 4 (accOp aluAdc .a (.mem (.ext addr16)) s))

/-- `ADDA addr16` (R240). -/
def execAddaExt (addr16 : Word) (s : State) : Host.Outcome State Fault Refusal :=
  .next (charge 4 (accOp aluAdd .a (.mem (.ext addr16)) s))

/-- `CPX addr16` (R253). -/
def execCpxExt (addr16 : Word) (s : State) : Host.Outcome State Fault Refusal :=
  .next (charge 5 (compareX (.mem (.ext addr16)) s))

/-- `SUBB #imm8` (R243). -/
def execSubbImm (imm8 : Byte) (s : State) : Host.Outcome State Fault Refusal :=
  .next (charge 2 (accOp aluSub .b (.imm imm8) s))

/-- `CMPB #imm8` (R246). -/
def execCmpbImm (imm8 : Byte) (s : State) : Host.Outcome State Fault Refusal :=
  .next (charge 2 (accTest testCmp .b (.imm imm8) s))

/-- `SBCB #imm8` (R244). -/
def execSbcbImm (imm8 : Byte) (s : State) : Host.Outcome State Fault Refusal :=
  .next (charge 2 (accOp aluSbc .b (.imm imm8) s))

/-- `ADCB #imm8` (R241). -/
def execAdcbImm (imm8 : Byte) (s : State) : Host.Outcome State Fault Refusal :=
  .next (charge 2 (accOp aluAdc .b (.imm imm8) s))

/-- `ADDB #imm8` (R240). -/
def execAddbImm (imm8 : Byte) (s : State) : Host.Outcome State Fault Refusal :=
  .next (charge 2 (accOp aluAdd .b (.imm imm8) s))

/-- `SUBB dir8` (R243). -/
def execSubbDir (dir8 : Byte) (s : State) : Host.Outcome State Fault Refusal :=
  .next (charge 3 (accOp aluSub .b (.mem (.dir dir8)) s))

/-- `CMPB dir8` (R246). -/
def execCmpbDir (dir8 : Byte) (s : State) : Host.Outcome State Fault Refusal :=
  .next (charge 3 (accTest testCmp .b (.mem (.dir dir8)) s))

/-- `SBCB dir8` (R244). -/
def execSbcbDir (dir8 : Byte) (s : State) : Host.Outcome State Fault Refusal :=
  .next (charge 3 (accOp aluSbc .b (.mem (.dir dir8)) s))

/-- `ADCB dir8` (R241). -/
def execAdcbDir (dir8 : Byte) (s : State) : Host.Outcome State Fault Refusal :=
  .next (charge 3 (accOp aluAdc .b (.mem (.dir dir8)) s))

/-- `ADDB dir8` (R240). -/
def execAddbDir (dir8 : Byte) (s : State) : Host.Outcome State Fault Refusal :=
  .next (charge 3 (accOp aluAdd .b (.mem (.dir dir8)) s))

/-- `SUBB off8,X` (R243). -/
def execSubbIdx (off8 : Byte) (s : State) : Host.Outcome State Fault Refusal :=
  .next (charge 5 (accOp aluSub .b (.mem (.idx off8)) s))

/-- `CMPB off8,X` (R246). -/
def execCmpbIdx (off8 : Byte) (s : State) : Host.Outcome State Fault Refusal :=
  .next (charge 5 (accTest testCmp .b (.mem (.idx off8)) s))

/-- `SBCB off8,X` (R244). -/
def execSbcbIdx (off8 : Byte) (s : State) : Host.Outcome State Fault Refusal :=
  .next (charge 5 (accOp aluSbc .b (.mem (.idx off8)) s))

/-- `ADCB off8,X` (R241). -/
def execAdcbIdx (off8 : Byte) (s : State) : Host.Outcome State Fault Refusal :=
  .next (charge 5 (accOp aluAdc .b (.mem (.idx off8)) s))

/-- `ADDB off8,X` (R240). -/
def execAddbIdx (off8 : Byte) (s : State) : Host.Outcome State Fault Refusal :=
  .next (charge 5 (accOp aluAdd .b (.mem (.idx off8)) s))

/-- `SUBB addr16` (R243). -/
def execSubbExt (addr16 : Word) (s : State) : Host.Outcome State Fault Refusal :=
  .next (charge 4 (accOp aluSub .b (.mem (.ext addr16)) s))

/-- `CMPB addr16` (R246). -/
def execCmpbExt (addr16 : Word) (s : State) : Host.Outcome State Fault Refusal :=
  .next (charge 4 (accTest testCmp .b (.mem (.ext addr16)) s))

/-- `SBCB addr16` (R244). -/
def execSbcbExt (addr16 : Word) (s : State) : Host.Outcome State Fault Refusal :=
  .next (charge 4 (accOp aluSbc .b (.mem (.ext addr16)) s))

/-- `ADCB addr16` (R241). -/
def execAdcbExt (addr16 : Word) (s : State) : Host.Outcome State Fault Refusal :=
  .next (charge 4 (accOp aluAdc .b (.mem (.ext addr16)) s))

/-- `ADDB addr16` (R240). -/
def execAddbExt (addr16 : Word) (s : State) : Host.Outcome State Fault Refusal :=
  .next (charge 4 (accOp aluAdd .b (.mem (.ext addr16)) s))

end Sys2Proof.Machine
end

