-- ==== Sys2Proof/Machine/Control.lean ====
section
/-! DEFINITION. The meanings of the branches, jumps, subroutine call and return, no-op (R310 to R330). At entry `pc` is already past the instruction
(R31); every meaning charges its base cost (R108, R140). -/

namespace Sys2Proof.Machine

/-- `NOP` (R330): nothing; `pc` has advanced by the fetch. -/
def execNop (s : State) : Host.Outcome State Fault Refusal :=
  .next (charge 2 s)

/-- `BRA rel8` (R311): always taken. -/
def execBra (rel8 : Byte) (s : State) : Host.Outcome State Fault Refusal :=
  .next (charge 4 (s.setPc (relTarget rel8 s)))

/-- `BHI rel8` (R312). -/
def execBhi (rel8 : Byte) (s : State) : Host.Outcome State Fault Refusal :=
  .next (condBranch (!(s.cc.c || s.cc.z)) rel8 s)

/-- `BLS rel8` (R313). -/
def execBls (rel8 : Byte) (s : State) : Host.Outcome State Fault Refusal :=
  .next (condBranch (s.cc.c || s.cc.z) rel8 s)

/-- `BCC rel8` (R314). -/
def execBcc (rel8 : Byte) (s : State) : Host.Outcome State Fault Refusal :=
  .next (condBranch (!s.cc.c) rel8 s)

/-- `BCS rel8` (R315). -/
def execBcs (rel8 : Byte) (s : State) : Host.Outcome State Fault Refusal :=
  .next (condBranch (s.cc.c) rel8 s)

/-- `BNE rel8` (R316). -/
def execBne (rel8 : Byte) (s : State) : Host.Outcome State Fault Refusal :=
  .next (condBranch (!s.cc.z) rel8 s)

/-- `BEQ rel8` (R317). -/
def execBeq (rel8 : Byte) (s : State) : Host.Outcome State Fault Refusal :=
  .next (condBranch (s.cc.z) rel8 s)

/-- `BVC rel8` (R318). -/
def execBvc (rel8 : Byte) (s : State) : Host.Outcome State Fault Refusal :=
  .next (condBranch (!s.cc.v) rel8 s)

/-- `BVS rel8` (R319). -/
def execBvs (rel8 : Byte) (s : State) : Host.Outcome State Fault Refusal :=
  .next (condBranch (s.cc.v) rel8 s)

/-- `BPL rel8` (R320). -/
def execBpl (rel8 : Byte) (s : State) : Host.Outcome State Fault Refusal :=
  .next (condBranch (!s.cc.n) rel8 s)

/-- `BMI rel8` (R321). -/
def execBmi (rel8 : Byte) (s : State) : Host.Outcome State Fault Refusal :=
  .next (condBranch (s.cc.n) rel8 s)

/-- `BGE rel8` (R322). -/
def execBge (rel8 : Byte) (s : State) : Host.Outcome State Fault Refusal :=
  .next (condBranch (!(s.cc.n ^^ s.cc.v)) rel8 s)

/-- `BLT rel8` (R323). -/
def execBlt (rel8 : Byte) (s : State) : Host.Outcome State Fault Refusal :=
  .next (condBranch (s.cc.n ^^ s.cc.v) rel8 s)

/-- `BGT rel8` (R324). -/
def execBgt (rel8 : Byte) (s : State) : Host.Outcome State Fault Refusal :=
  .next (condBranch (!(s.cc.z || (s.cc.n ^^ s.cc.v))) rel8 s)

/-- `BLE rel8` (R325). -/
def execBle (rel8 : Byte) (s : State) : Host.Outcome State Fault Refusal :=
  .next (condBranch (s.cc.z || (s.cc.n ^^ s.cc.v)) rel8 s)

/-- `RTS` (R329): `pc <- Pull16()`. -/
def execRts (s : State) : Host.Outcome State Fault Refusal :=
  .next (charge 5 (returnFromCall s))

/-- `JMP off8,X` (R327): the effective address itself is the target. -/
def execJmpIdx (off8 : Byte) (s : State) : Host.Outcome State Fault Refusal :=
  .next (charge 4 (s.setPc (ea (.idx off8) s)))

/-- `JMP addr16` (R327): the effective address itself is the target. -/
def execJmpExt (addr16 : Word) (s : State) : Host.Outcome State Fault Refusal :=
  .next (charge 3 (s.setPc (ea (.ext addr16) s)))

/-- `BSR rel8` (R326): the return address is pushed, then the relative target is taken. -/
def execBsr (rel8 : Byte) (s : State) : Host.Outcome State Fault Refusal :=
  .next (charge 8 (callTo (relTarget rel8 s) s))

/-- `JSR off8,X` (R328): the return address is pushed, then `pc` is the effective address. -/
def execJsrIdx (off8 : Byte) (s : State) : Host.Outcome State Fault Refusal :=
  .next (charge 8 (callTo (ea (.idx off8) s) s))

/-- `JSR addr16` (R328): the return address is pushed, then `pc` is the effective address. -/
def execJsrExt (addr16 : Word) (s : State) : Host.Outcome State Fault Refusal :=
  .next (charge 9 (callTo (ea (.ext addr16) s) s))

end Sys2Proof.Machine
end

