-- ==== Sys2Proof/Machine/LoadStore.lean ====
section
/-! DEFINITION. The meanings of the loads, stores, transfers, push, pull and clear (R204 to R218). At entry `pc` is already past the instruction
(R31); every meaning charges its base cost (R108, R140). -/

namespace Sys2Proof.Machine

/-- `TAP` (R212): all six flags from bits 5 to 0 of `A`. -/
def execTap (s : State) : Host.Outcome State Fault Refusal :=
  .next (charge 2 (s.setCc (Flags.ofImage s.a)))

/-- `TPA` (R213): `A` takes the flags image. -/
def execTpa (s : State) : Host.Outcome State Fault Refusal :=
  .next (charge 2 (s.setA s.cc.image))

/-- `TAB` (R210): `B <- A`. -/
def execTab (s : State) : Host.Outcome State Fault Refusal :=
  .next (charge 2 ((s.setB s.a).setCc (s.cc.withNzv (mov8 s.a))))

/-- `TBA` (R211): `A <- B`. -/
def execTba (s : State) : Host.Outcome State Fault Refusal :=
  .next (charge 2 ((s.setA s.b).setCc (s.cc.withNzv (mov8 s.b))))

/-- `TSX` (R214): `X <- SP + 1`; no flag. -/
def execTsx (s : State) : Host.Outcome State Fault Refusal :=
  .next (charge 4 (s.setX (s.sp + 1#16)))

/-- `PULA` (R217). -/
def execPula (s : State) : Host.Outcome State Fault Refusal :=
  .next (charge 4 (pullAcc .a s))

/-- `PULB` (R217). -/
def execPulb (s : State) : Host.Outcome State Fault Refusal :=
  .next (charge 4 (pullAcc .b s))

/-- `TXS` (R215): `SP <- X - 1`; no flag. -/
def execTxs (s : State) : Host.Outcome State Fault Refusal :=
  .next (charge 4 (s.setSp (s.x - 1#16)))

/-- `PSHA` (R216). -/
def execPsha (s : State) : Host.Outcome State Fault Refusal :=
  .next (charge 4 (pushAcc .a s))

/-- `PSHB` (R216). -/
def execPshb (s : State) : Host.Outcome State Fault Refusal :=
  .next (charge 4 (pushAcc .b s))

/-- `CLRA` (R218). -/
def execClra (s : State) : Host.Outcome State Fault Refusal :=
  .next (charge 2 (clearAcc .a s))

/-- `CLRB` (R218). -/
def execClrb (s : State) : Host.Outcome State Fault Refusal :=
  .next (charge 2 (clearAcc .b s))

/-- `CLR off8,X` (R218). -/
def execClrIdx (off8 : Byte) (s : State) : Host.Outcome State Fault Refusal :=
  .next (charge 7 (clearMem (.idx off8) s))

/-- `CLR addr16` (R218). -/
def execClrExt (addr16 : Word) (s : State) : Host.Outcome State Fault Refusal :=
  .next (charge 6 (clearMem (.ext addr16) s))

/-- `LDAA #imm8` (R204). -/
def execLdaaImm (imm8 : Byte) (s : State) : Host.Outcome State Fault Refusal :=
  .next (charge 2 (accOp aluLda .a (.imm imm8) s))

/-- `LDS #imm16` (R207). -/
def execLdsImm (imm16 : Word) (s : State) : Host.Outcome State Fault Refusal :=
  .next (charge 3 (loadSp (.imm imm16) s))

/-- `LDAA dir8` (R204). -/
def execLdaaDir (dir8 : Byte) (s : State) : Host.Outcome State Fault Refusal :=
  .next (charge 3 (accOp aluLda .a (.mem (.dir dir8)) s))

/-- `STAA dir8` (R205). -/
def execStaaDir (dir8 : Byte) (s : State) : Host.Outcome State Fault Refusal :=
  .next (charge 4 (storeAcc .a (.dir dir8) s))

/-- `LDS dir8` (R207). -/
def execLdsDir (dir8 : Byte) (s : State) : Host.Outcome State Fault Refusal :=
  .next (charge 4 (loadSp (.mem (.dir dir8)) s))

/-- `STS dir8` (R209). -/
def execStsDir (dir8 : Byte) (s : State) : Host.Outcome State Fault Refusal :=
  .next (charge 5 (storeWord s.sp (.dir dir8) s))

/-- `LDAA off8,X` (R204). -/
def execLdaaIdx (off8 : Byte) (s : State) : Host.Outcome State Fault Refusal :=
  .next (charge 5 (accOp aluLda .a (.mem (.idx off8)) s))

/-- `STAA off8,X` (R205). -/
def execStaaIdx (off8 : Byte) (s : State) : Host.Outcome State Fault Refusal :=
  .next (charge 6 (storeAcc .a (.idx off8) s))

/-- `LDS off8,X` (R207). -/
def execLdsIdx (off8 : Byte) (s : State) : Host.Outcome State Fault Refusal :=
  .next (charge 6 (loadSp (.mem (.idx off8)) s))

/-- `STS off8,X` (R209). -/
def execStsIdx (off8 : Byte) (s : State) : Host.Outcome State Fault Refusal :=
  .next (charge 7 (storeWord s.sp (.idx off8) s))

/-- `LDAA addr16` (R204). -/
def execLdaaExt (addr16 : Word) (s : State) : Host.Outcome State Fault Refusal :=
  .next (charge 4 (accOp aluLda .a (.mem (.ext addr16)) s))

/-- `STAA addr16` (R205). -/
def execStaaExt (addr16 : Word) (s : State) : Host.Outcome State Fault Refusal :=
  .next (charge 5 (storeAcc .a (.ext addr16) s))

/-- `LDS addr16` (R207). -/
def execLdsExt (addr16 : Word) (s : State) : Host.Outcome State Fault Refusal :=
  .next (charge 5 (loadSp (.mem (.ext addr16)) s))

/-- `STS addr16` (R209). -/
def execStsExt (addr16 : Word) (s : State) : Host.Outcome State Fault Refusal :=
  .next (charge 6 (storeWord s.sp (.ext addr16) s))

/-- `LDAB #imm8` (R204). -/
def execLdabImm (imm8 : Byte) (s : State) : Host.Outcome State Fault Refusal :=
  .next (charge 2 (accOp aluLda .b (.imm imm8) s))

/-- `LDX #imm16` (R206). -/
def execLdxImm (imm16 : Word) (s : State) : Host.Outcome State Fault Refusal :=
  .next (charge 3 (loadX (.imm imm16) s))

/-- `LDAB dir8` (R204). -/
def execLdabDir (dir8 : Byte) (s : State) : Host.Outcome State Fault Refusal :=
  .next (charge 3 (accOp aluLda .b (.mem (.dir dir8)) s))

/-- `STAB dir8` (R205). -/
def execStabDir (dir8 : Byte) (s : State) : Host.Outcome State Fault Refusal :=
  .next (charge 4 (storeAcc .b (.dir dir8) s))

/-- `LDX dir8` (R206). -/
def execLdxDir (dir8 : Byte) (s : State) : Host.Outcome State Fault Refusal :=
  .next (charge 4 (loadX (.mem (.dir dir8)) s))

/-- `STX dir8` (R208). -/
def execStxDir (dir8 : Byte) (s : State) : Host.Outcome State Fault Refusal :=
  .next (charge 5 (storeWord s.x (.dir dir8) s))

/-- `LDAB off8,X` (R204). -/
def execLdabIdx (off8 : Byte) (s : State) : Host.Outcome State Fault Refusal :=
  .next (charge 5 (accOp aluLda .b (.mem (.idx off8)) s))

/-- `STAB off8,X` (R205). -/
def execStabIdx (off8 : Byte) (s : State) : Host.Outcome State Fault Refusal :=
  .next (charge 6 (storeAcc .b (.idx off8) s))

/-- `LDX off8,X` (R206). -/
def execLdxIdx (off8 : Byte) (s : State) : Host.Outcome State Fault Refusal :=
  .next (charge 6 (loadX (.mem (.idx off8)) s))

/-- `STX off8,X` (R208). -/
def execStxIdx (off8 : Byte) (s : State) : Host.Outcome State Fault Refusal :=
  .next (charge 7 (storeWord s.x (.idx off8) s))

/-- `LDAB addr16` (R204). -/
def execLdabExt (addr16 : Word) (s : State) : Host.Outcome State Fault Refusal :=
  .next (charge 4 (accOp aluLda .b (.mem (.ext addr16)) s))

/-- `STAB addr16` (R205). -/
def execStabExt (addr16 : Word) (s : State) : Host.Outcome State Fault Refusal :=
  .next (charge 5 (storeAcc .b (.ext addr16) s))

/-- `LDX addr16` (R206). -/
def execLdxExt (addr16 : Word) (s : State) : Host.Outcome State Fault Refusal :=
  .next (charge 5 (loadX (.mem (.ext addr16)) s))

/-- `STX addr16` (R208). -/
def execStxExt (addr16 : Word) (s : State) : Host.Outcome State Fault Refusal :=
  .next (charge 6 (storeWord s.x (.ext addr16) s))

end Sys2Proof.Machine
end

