-- ==== Sys2Proof/Machine/Logic.lean ====
section
/-! DEFINITION. The meanings of the logical operations, complement, shifts and rotates (R280 to R289). At entry `pc` is already past the instruction
(R31); every meaning charges its base cost (R108, R140). -/

namespace Sys2Proof.Machine

/-- `COMA` (R284). -/
def execComa (s : State) : Host.Outcome State Fault Refusal :=
  .next (charge 2 (modifyAcc unaryCom .a s))

/-- `LSRA` (R287). -/
def execLsra (s : State) : Host.Outcome State Fault Refusal :=
  .next (charge 2 (modifyAcc unaryLsr .a s))

/-- `RORA` (R289). -/
def execRora (s : State) : Host.Outcome State Fault Refusal :=
  .next (charge 2 (modifyAcc unaryRor .a s))

/-- `ASRA` (R286). -/
def execAsra (s : State) : Host.Outcome State Fault Refusal :=
  .next (charge 2 (modifyAcc unaryAsr .a s))

/-- `ASLA` (R285). -/
def execAsla (s : State) : Host.Outcome State Fault Refusal :=
  .next (charge 2 (modifyAcc unaryAsl .a s))

/-- `ROLA` (R288). -/
def execRola (s : State) : Host.Outcome State Fault Refusal :=
  .next (charge 2 (modifyAcc unaryRol .a s))

/-- `COMB` (R284). -/
def execComb (s : State) : Host.Outcome State Fault Refusal :=
  .next (charge 2 (modifyAcc unaryCom .b s))

/-- `LSRB` (R287). -/
def execLsrb (s : State) : Host.Outcome State Fault Refusal :=
  .next (charge 2 (modifyAcc unaryLsr .b s))

/-- `RORB` (R289). -/
def execRorb (s : State) : Host.Outcome State Fault Refusal :=
  .next (charge 2 (modifyAcc unaryRor .b s))

/-- `ASRB` (R286). -/
def execAsrb (s : State) : Host.Outcome State Fault Refusal :=
  .next (charge 2 (modifyAcc unaryAsr .b s))

/-- `ASLB` (R285). -/
def execAslb (s : State) : Host.Outcome State Fault Refusal :=
  .next (charge 2 (modifyAcc unaryAsl .b s))

/-- `ROLB` (R288). -/
def execRolb (s : State) : Host.Outcome State Fault Refusal :=
  .next (charge 2 (modifyAcc unaryRol .b s))

/-- `COM off8,X` (R284). -/
def execComIdx (off8 : Byte) (s : State) : Host.Outcome State Fault Refusal :=
  .next (charge 7 (modifyMem unaryCom (.idx off8) s))

/-- `LSR off8,X` (R287). -/
def execLsrIdx (off8 : Byte) (s : State) : Host.Outcome State Fault Refusal :=
  .next (charge 7 (modifyMem unaryLsr (.idx off8) s))

/-- `ROR off8,X` (R289). -/
def execRorIdx (off8 : Byte) (s : State) : Host.Outcome State Fault Refusal :=
  .next (charge 7 (modifyMem unaryRor (.idx off8) s))

/-- `ASR off8,X` (R286). -/
def execAsrIdx (off8 : Byte) (s : State) : Host.Outcome State Fault Refusal :=
  .next (charge 7 (modifyMem unaryAsr (.idx off8) s))

/-- `ASL off8,X` (R285). -/
def execAslIdx (off8 : Byte) (s : State) : Host.Outcome State Fault Refusal :=
  .next (charge 7 (modifyMem unaryAsl (.idx off8) s))

/-- `ROL off8,X` (R288). -/
def execRolIdx (off8 : Byte) (s : State) : Host.Outcome State Fault Refusal :=
  .next (charge 7 (modifyMem unaryRol (.idx off8) s))

/-- `COM addr16` (R284). -/
def execComExt (addr16 : Word) (s : State) : Host.Outcome State Fault Refusal :=
  .next (charge 6 (modifyMem unaryCom (.ext addr16) s))

/-- `LSR addr16` (R287). -/
def execLsrExt (addr16 : Word) (s : State) : Host.Outcome State Fault Refusal :=
  .next (charge 6 (modifyMem unaryLsr (.ext addr16) s))

/-- `ROR addr16` (R289). -/
def execRorExt (addr16 : Word) (s : State) : Host.Outcome State Fault Refusal :=
  .next (charge 6 (modifyMem unaryRor (.ext addr16) s))

/-- `ASR addr16` (R286). -/
def execAsrExt (addr16 : Word) (s : State) : Host.Outcome State Fault Refusal :=
  .next (charge 6 (modifyMem unaryAsr (.ext addr16) s))

/-- `ASL addr16` (R285). -/
def execAslExt (addr16 : Word) (s : State) : Host.Outcome State Fault Refusal :=
  .next (charge 6 (modifyMem unaryAsl (.ext addr16) s))

/-- `ROL addr16` (R288). -/
def execRolExt (addr16 : Word) (s : State) : Host.Outcome State Fault Refusal :=
  .next (charge 6 (modifyMem unaryRol (.ext addr16) s))

/-- `ANDA #imm8` (R280). -/
def execAndaImm (imm8 : Byte) (s : State) : Host.Outcome State Fault Refusal :=
  .next (charge 2 (accOp aluAnd .a (.imm imm8) s))

/-- `BITA #imm8` (R283). -/
def execBitaImm (imm8 : Byte) (s : State) : Host.Outcome State Fault Refusal :=
  .next (charge 2 (accTest testBit .a (.imm imm8) s))

/-- `EORA #imm8` (R282). -/
def execEoraImm (imm8 : Byte) (s : State) : Host.Outcome State Fault Refusal :=
  .next (charge 2 (accOp aluEor .a (.imm imm8) s))

/-- `ORAA #imm8` (R281). -/
def execOraaImm (imm8 : Byte) (s : State) : Host.Outcome State Fault Refusal :=
  .next (charge 2 (accOp aluOra .a (.imm imm8) s))

/-- `ANDA dir8` (R280). -/
def execAndaDir (dir8 : Byte) (s : State) : Host.Outcome State Fault Refusal :=
  .next (charge 3 (accOp aluAnd .a (.mem (.dir dir8)) s))

/-- `BITA dir8` (R283). -/
def execBitaDir (dir8 : Byte) (s : State) : Host.Outcome State Fault Refusal :=
  .next (charge 3 (accTest testBit .a (.mem (.dir dir8)) s))

/-- `EORA dir8` (R282). -/
def execEoraDir (dir8 : Byte) (s : State) : Host.Outcome State Fault Refusal :=
  .next (charge 3 (accOp aluEor .a (.mem (.dir dir8)) s))

/-- `ORAA dir8` (R281). -/
def execOraaDir (dir8 : Byte) (s : State) : Host.Outcome State Fault Refusal :=
  .next (charge 3 (accOp aluOra .a (.mem (.dir dir8)) s))

/-- `ANDA off8,X` (R280). -/
def execAndaIdx (off8 : Byte) (s : State) : Host.Outcome State Fault Refusal :=
  .next (charge 5 (accOp aluAnd .a (.mem (.idx off8)) s))

/-- `BITA off8,X` (R283). -/
def execBitaIdx (off8 : Byte) (s : State) : Host.Outcome State Fault Refusal :=
  .next (charge 5 (accTest testBit .a (.mem (.idx off8)) s))

/-- `EORA off8,X` (R282). -/
def execEoraIdx (off8 : Byte) (s : State) : Host.Outcome State Fault Refusal :=
  .next (charge 5 (accOp aluEor .a (.mem (.idx off8)) s))

/-- `ORAA off8,X` (R281). -/
def execOraaIdx (off8 : Byte) (s : State) : Host.Outcome State Fault Refusal :=
  .next (charge 5 (accOp aluOra .a (.mem (.idx off8)) s))

/-- `ANDA addr16` (R280). -/
def execAndaExt (addr16 : Word) (s : State) : Host.Outcome State Fault Refusal :=
  .next (charge 4 (accOp aluAnd .a (.mem (.ext addr16)) s))

/-- `BITA addr16` (R283). -/
def execBitaExt (addr16 : Word) (s : State) : Host.Outcome State Fault Refusal :=
  .next (charge 4 (accTest testBit .a (.mem (.ext addr16)) s))

/-- `EORA addr16` (R282). -/
def execEoraExt (addr16 : Word) (s : State) : Host.Outcome State Fault Refusal :=
  .next (charge 4 (accOp aluEor .a (.mem (.ext addr16)) s))

/-- `ORAA addr16` (R281). -/
def execOraaExt (addr16 : Word) (s : State) : Host.Outcome State Fault Refusal :=
  .next (charge 4 (accOp aluOra .a (.mem (.ext addr16)) s))

/-- `ANDB #imm8` (R280). -/
def execAndbImm (imm8 : Byte) (s : State) : Host.Outcome State Fault Refusal :=
  .next (charge 2 (accOp aluAnd .b (.imm imm8) s))

/-- `BITB #imm8` (R283). -/
def execBitbImm (imm8 : Byte) (s : State) : Host.Outcome State Fault Refusal :=
  .next (charge 2 (accTest testBit .b (.imm imm8) s))

/-- `EORB #imm8` (R282). -/
def execEorbImm (imm8 : Byte) (s : State) : Host.Outcome State Fault Refusal :=
  .next (charge 2 (accOp aluEor .b (.imm imm8) s))

/-- `ORAB #imm8` (R281). -/
def execOrabImm (imm8 : Byte) (s : State) : Host.Outcome State Fault Refusal :=
  .next (charge 2 (accOp aluOra .b (.imm imm8) s))

/-- `ANDB dir8` (R280). -/
def execAndbDir (dir8 : Byte) (s : State) : Host.Outcome State Fault Refusal :=
  .next (charge 3 (accOp aluAnd .b (.mem (.dir dir8)) s))

/-- `BITB dir8` (R283). -/
def execBitbDir (dir8 : Byte) (s : State) : Host.Outcome State Fault Refusal :=
  .next (charge 3 (accTest testBit .b (.mem (.dir dir8)) s))

/-- `EORB dir8` (R282). -/
def execEorbDir (dir8 : Byte) (s : State) : Host.Outcome State Fault Refusal :=
  .next (charge 3 (accOp aluEor .b (.mem (.dir dir8)) s))

/-- `ORAB dir8` (R281). -/
def execOrabDir (dir8 : Byte) (s : State) : Host.Outcome State Fault Refusal :=
  .next (charge 3 (accOp aluOra .b (.mem (.dir dir8)) s))

/-- `ANDB off8,X` (R280). -/
def execAndbIdx (off8 : Byte) (s : State) : Host.Outcome State Fault Refusal :=
  .next (charge 5 (accOp aluAnd .b (.mem (.idx off8)) s))

/-- `BITB off8,X` (R283). -/
def execBitbIdx (off8 : Byte) (s : State) : Host.Outcome State Fault Refusal :=
  .next (charge 5 (accTest testBit .b (.mem (.idx off8)) s))

/-- `EORB off8,X` (R282). -/
def execEorbIdx (off8 : Byte) (s : State) : Host.Outcome State Fault Refusal :=
  .next (charge 5 (accOp aluEor .b (.mem (.idx off8)) s))

/-- `ORAB off8,X` (R281). -/
def execOrabIdx (off8 : Byte) (s : State) : Host.Outcome State Fault Refusal :=
  .next (charge 5 (accOp aluOra .b (.mem (.idx off8)) s))

/-- `ANDB addr16` (R280). -/
def execAndbExt (addr16 : Word) (s : State) : Host.Outcome State Fault Refusal :=
  .next (charge 4 (accOp aluAnd .b (.mem (.ext addr16)) s))

/-- `BITB addr16` (R283). -/
def execBitbExt (addr16 : Word) (s : State) : Host.Outcome State Fault Refusal :=
  .next (charge 4 (accTest testBit .b (.mem (.ext addr16)) s))

/-- `EORB addr16` (R282). -/
def execEorbExt (addr16 : Word) (s : State) : Host.Outcome State Fault Refusal :=
  .next (charge 4 (accOp aluEor .b (.mem (.ext addr16)) s))

/-- `ORAB addr16` (R281). -/
def execOrabExt (addr16 : Word) (s : State) : Host.Outcome State Fault Refusal :=
  .next (charge 4 (accOp aluOra .b (.mem (.ext addr16)) s))

end Sys2Proof.Machine
end

