-- ==== Sys2Proof/Machine/System.lean ====
section
/-! DEFINITION. The meanings of the software interrupt, return from interrupt, wait, and the flag instructions (R340 to R348). At entry `pc` is already past the instruction
(R31); every meaning charges its base cost (R108, R140). -/

namespace Sys2Proof.Machine

/-- `CLV` (R345): `V <- 0`. -/
def execClv (s : State) : Host.Outcome State Fault Refusal :=
  .next (charge 2 (s.setCc { s.cc with v := false }))

/-- `SEV` (R346): `V <- 1`. -/
def execSev (s : State) : Host.Outcome State Fault Refusal :=
  .next (charge 2 (s.setCc { s.cc with v := true }))

/-- `CLC` (R343): `C <- 0`. -/
def execClc (s : State) : Host.Outcome State Fault Refusal :=
  .next (charge 2 (s.setCc { s.cc with c := false }))

/-- `SEC` (R344): `C <- 1`. -/
def execSec (s : State) : Host.Outcome State Fault Refusal :=
  .next (charge 2 (s.setCc { s.cc with c := true }))

/-- `CLI` (R347): `I <- 0`. -/
def execCli (s : State) : Host.Outcome State Fault Refusal :=
  .next (charge 2 (setIMask false s))

/-- `SEI` (R348): `I <- 1`. -/
def execSei (s : State) : Host.Outcome State Fault Refusal :=
  .next (charge 2 (setIMask true s))

/-- `RTI` (R341): the exact reverse of the entry pushes. -/
def execRti (s : State) : Host.Outcome State Fault Refusal :=
  .next (charge 10 (returnFromInterrupt s))

/-- `WAI` (R342): with nothing pending the step halts at the opcode (R138); with a bit pending the cost is charged and the next turn
begins at the arbiter. -/
def execWai (s : State) : Host.Outcome State Fault Refusal :=
  if s.pend.nmi || s.pend.irq then .next ((charge 9 s).setLoop .afterWait) else .next (haltWait s)

/-- `SWI` (R340): the interrupt entry with the SWI vector and the instruction's own cost. -/
def execSwi (s : State) : Host.Outcome State Fault Refusal :=
  .next (enterInterrupt Config.vecSwi 12 s)

end Sys2Proof.Machine
end

