-- ==== Sys2Proof/Machine/Dispatch.lean ====
section
/-! DEFINITION. One arm per instruction, each one direct call of its meaning. -/

namespace Sys2Proof.Machine

/-- The meaning of an instruction, at the state in which all its bytes have been fetched (R134). -/
def exec (i : Instr) (s : State) : Host.Outcome State Fault Refusal :=
  match i with
  | .nop => Sys2Proof.Machine.execNop s
  | .tap => Sys2Proof.Machine.execTap s
  | .tpa => Sys2Proof.Machine.execTpa s
  | .inx => Sys2Proof.Machine.execInx s
  | .dex => Sys2Proof.Machine.execDex s
  | .clv => Sys2Proof.Machine.execClv s
  | .sev => Sys2Proof.Machine.execSev s
  | .clc => Sys2Proof.Machine.execClc s
  | .sec => Sys2Proof.Machine.execSec s
  | .cli => Sys2Proof.Machine.execCli s
  | .sei => Sys2Proof.Machine.execSei s
  | .sba => Sys2Proof.Machine.execSba s
  | .cba => Sys2Proof.Machine.execCba s
  | .tab => Sys2Proof.Machine.execTab s
  | .tba => Sys2Proof.Machine.execTba s
  | .daa => Sys2Proof.Machine.execDaa s
  | .aba => Sys2Proof.Machine.execAba s
  | .bra rel8 => Sys2Proof.Machine.execBra rel8 s
  | .bhi rel8 => Sys2Proof.Machine.execBhi rel8 s
  | .bls rel8 => Sys2Proof.Machine.execBls rel8 s
  | .bcc rel8 => Sys2Proof.Machine.execBcc rel8 s
  | .bcs rel8 => Sys2Proof.Machine.execBcs rel8 s
  | .bne rel8 => Sys2Proof.Machine.execBne rel8 s
  | .beq rel8 => Sys2Proof.Machine.execBeq rel8 s
  | .bvc rel8 => Sys2Proof.Machine.execBvc rel8 s
  | .bvs rel8 => Sys2Proof.Machine.execBvs rel8 s
  | .bpl rel8 => Sys2Proof.Machine.execBpl rel8 s
  | .bmi rel8 => Sys2Proof.Machine.execBmi rel8 s
  | .bge rel8 => Sys2Proof.Machine.execBge rel8 s
  | .blt rel8 => Sys2Proof.Machine.execBlt rel8 s
  | .bgt rel8 => Sys2Proof.Machine.execBgt rel8 s
  | .ble rel8 => Sys2Proof.Machine.execBle rel8 s
  | .tsx => Sys2Proof.Machine.execTsx s
  | .ins => Sys2Proof.Machine.execIns s
  | .pula => Sys2Proof.Machine.execPula s
  | .pulb => Sys2Proof.Machine.execPulb s
  | .des => Sys2Proof.Machine.execDes s
  | .txs => Sys2Proof.Machine.execTxs s
  | .psha => Sys2Proof.Machine.execPsha s
  | .pshb => Sys2Proof.Machine.execPshb s
  | .rts => Sys2Proof.Machine.execRts s
  | .rti => Sys2Proof.Machine.execRti s
  | .wai => Sys2Proof.Machine.execWai s
  | .swi => Sys2Proof.Machine.execSwi s
  | .nega => Sys2Proof.Machine.execNega s
  | .coma => Sys2Proof.Machine.execComa s
  | .lsra => Sys2Proof.Machine.execLsra s
  | .rora => Sys2Proof.Machine.execRora s
  | .asra => Sys2Proof.Machine.execAsra s
  | .asla => Sys2Proof.Machine.execAsla s
  | .rola => Sys2Proof.Machine.execRola s
  | .deca => Sys2Proof.Machine.execDeca s
  | .inca => Sys2Proof.Machine.execInca s
  | .tsta => Sys2Proof.Machine.execTsta s
  | .clra => Sys2Proof.Machine.execClra s
  | .negb => Sys2Proof.Machine.execNegb s
  | .comb => Sys2Proof.Machine.execComb s
  | .lsrb => Sys2Proof.Machine.execLsrb s
  | .rorb => Sys2Proof.Machine.execRorb s
  | .asrb => Sys2Proof.Machine.execAsrb s
  | .aslb => Sys2Proof.Machine.execAslb s
  | .rolb => Sys2Proof.Machine.execRolb s
  | .decb => Sys2Proof.Machine.execDecb s
  | .incb => Sys2Proof.Machine.execIncb s
  | .tstb => Sys2Proof.Machine.execTstb s
  | .clrb => Sys2Proof.Machine.execClrb s
  | .negIdx off8 => Sys2Proof.Machine.execNegIdx off8 s
  | .comIdx off8 => Sys2Proof.Machine.execComIdx off8 s
  | .lsrIdx off8 => Sys2Proof.Machine.execLsrIdx off8 s
  | .rorIdx off8 => Sys2Proof.Machine.execRorIdx off8 s
  | .asrIdx off8 => Sys2Proof.Machine.execAsrIdx off8 s
  | .aslIdx off8 => Sys2Proof.Machine.execAslIdx off8 s
  | .rolIdx off8 => Sys2Proof.Machine.execRolIdx off8 s
  | .decIdx off8 => Sys2Proof.Machine.execDecIdx off8 s
  | .incIdx off8 => Sys2Proof.Machine.execIncIdx off8 s
  | .tstIdx off8 => Sys2Proof.Machine.execTstIdx off8 s
  | .jmpIdx off8 => Sys2Proof.Machine.execJmpIdx off8 s
  | .clrIdx off8 => Sys2Proof.Machine.execClrIdx off8 s
  | .negExt addr16 => Sys2Proof.Machine.execNegExt addr16 s
  | .comExt addr16 => Sys2Proof.Machine.execComExt addr16 s
  | .lsrExt addr16 => Sys2Proof.Machine.execLsrExt addr16 s
  | .rorExt addr16 => Sys2Proof.Machine.execRorExt addr16 s
  | .asrExt addr16 => Sys2Proof.Machine.execAsrExt addr16 s
  | .aslExt addr16 => Sys2Proof.Machine.execAslExt addr16 s
  | .rolExt addr16 => Sys2Proof.Machine.execRolExt addr16 s
  | .decExt addr16 => Sys2Proof.Machine.execDecExt addr16 s
  | .incExt addr16 => Sys2Proof.Machine.execIncExt addr16 s
  | .tstExt addr16 => Sys2Proof.Machine.execTstExt addr16 s
  | .jmpExt addr16 => Sys2Proof.Machine.execJmpExt addr16 s
  | .clrExt addr16 => Sys2Proof.Machine.execClrExt addr16 s
  | .subaImm imm8 => Sys2Proof.Machine.execSubaImm imm8 s
  | .cmpaImm imm8 => Sys2Proof.Machine.execCmpaImm imm8 s
  | .sbcaImm imm8 => Sys2Proof.Machine.execSbcaImm imm8 s
  | .andaImm imm8 => Sys2Proof.Machine.execAndaImm imm8 s
  | .bitaImm imm8 => Sys2Proof.Machine.execBitaImm imm8 s
  | .ldaaImm imm8 => Sys2Proof.Machine.execLdaaImm imm8 s
  | .eoraImm imm8 => Sys2Proof.Machine.execEoraImm imm8 s
  | .adcaImm imm8 => Sys2Proof.Machine.execAdcaImm imm8 s
  | .oraaImm imm8 => Sys2Proof.Machine.execOraaImm imm8 s
  | .addaImm imm8 => Sys2Proof.Machine.execAddaImm imm8 s
  | .cpxImm imm16 => Sys2Proof.Machine.execCpxImm imm16 s
  | .bsr rel8 => Sys2Proof.Machine.execBsr rel8 s
  | .ldsImm imm16 => Sys2Proof.Machine.execLdsImm imm16 s
  | .subaDir dir8 => Sys2Proof.Machine.execSubaDir dir8 s
  | .cmpaDir dir8 => Sys2Proof.Machine.execCmpaDir dir8 s
  | .sbcaDir dir8 => Sys2Proof.Machine.execSbcaDir dir8 s
  | .andaDir dir8 => Sys2Proof.Machine.execAndaDir dir8 s
  | .bitaDir dir8 => Sys2Proof.Machine.execBitaDir dir8 s
  | .ldaaDir dir8 => Sys2Proof.Machine.execLdaaDir dir8 s
  | .staaDir dir8 => Sys2Proof.Machine.execStaaDir dir8 s
  | .eoraDir dir8 => Sys2Proof.Machine.execEoraDir dir8 s
  | .adcaDir dir8 => Sys2Proof.Machine.execAdcaDir dir8 s
  | .oraaDir dir8 => Sys2Proof.Machine.execOraaDir dir8 s
  | .addaDir dir8 => Sys2Proof.Machine.execAddaDir dir8 s
  | .cpxDir dir8 => Sys2Proof.Machine.execCpxDir dir8 s
  | .ldsDir dir8 => Sys2Proof.Machine.execLdsDir dir8 s
  | .stsDir dir8 => Sys2Proof.Machine.execStsDir dir8 s
  | .subaIdx off8 => Sys2Proof.Machine.execSubaIdx off8 s
  | .cmpaIdx off8 => Sys2Proof.Machine.execCmpaIdx off8 s
  | .sbcaIdx off8 => Sys2Proof.Machine.execSbcaIdx off8 s
  | .andaIdx off8 => Sys2Proof.Machine.execAndaIdx off8 s
  | .bitaIdx off8 => Sys2Proof.Machine.execBitaIdx off8 s
  | .ldaaIdx off8 => Sys2Proof.Machine.execLdaaIdx off8 s
  | .staaIdx off8 => Sys2Proof.Machine.execStaaIdx off8 s
  | .eoraIdx off8 => Sys2Proof.Machine.execEoraIdx off8 s
  | .adcaIdx off8 => Sys2Proof.Machine.execAdcaIdx off8 s
  | .oraaIdx off8 => Sys2Proof.Machine.execOraaIdx off8 s
  | .addaIdx off8 => Sys2Proof.Machine.execAddaIdx off8 s
  | .cpxIdx off8 => Sys2Proof.Machine.execCpxIdx off8 s
  | .jsrIdx off8 => Sys2Proof.Machine.execJsrIdx off8 s
  | .ldsIdx off8 => Sys2Proof.Machine.execLdsIdx off8 s
  | .stsIdx off8 => Sys2Proof.Machine.execStsIdx off8 s
  | .subaExt addr16 => Sys2Proof.Machine.execSubaExt addr16 s
  | .cmpaExt addr16 => Sys2Proof.Machine.execCmpaExt addr16 s
  | .sbcaExt addr16 => Sys2Proof.Machine.execSbcaExt addr16 s
  | .andaExt addr16 => Sys2Proof.Machine.execAndaExt addr16 s
  | .bitaExt addr16 => Sys2Proof.Machine.execBitaExt addr16 s
  | .ldaaExt addr16 => Sys2Proof.Machine.execLdaaExt addr16 s
  | .staaExt addr16 => Sys2Proof.Machine.execStaaExt addr16 s
  | .eoraExt addr16 => Sys2Proof.Machine.execEoraExt addr16 s
  | .adcaExt addr16 => Sys2Proof.Machine.execAdcaExt addr16 s
  | .oraaExt addr16 => Sys2Proof.Machine.execOraaExt addr16 s
  | .addaExt addr16 => Sys2Proof.Machine.execAddaExt addr16 s
  | .cpxExt addr16 => Sys2Proof.Machine.execCpxExt addr16 s
  | .jsrExt addr16 => Sys2Proof.Machine.execJsrExt addr16 s
  | .ldsExt addr16 => Sys2Proof.Machine.execLdsExt addr16 s
  | .stsExt addr16 => Sys2Proof.Machine.execStsExt addr16 s
  | .subbImm imm8 => Sys2Proof.Machine.execSubbImm imm8 s
  | .cmpbImm imm8 => Sys2Proof.Machine.execCmpbImm imm8 s
  | .sbcbImm imm8 => Sys2Proof.Machine.execSbcbImm imm8 s
  | .andbImm imm8 => Sys2Proof.Machine.execAndbImm imm8 s
  | .bitbImm imm8 => Sys2Proof.Machine.execBitbImm imm8 s
  | .ldabImm imm8 => Sys2Proof.Machine.execLdabImm imm8 s
  | .eorbImm imm8 => Sys2Proof.Machine.execEorbImm imm8 s
  | .adcbImm imm8 => Sys2Proof.Machine.execAdcbImm imm8 s
  | .orabImm imm8 => Sys2Proof.Machine.execOrabImm imm8 s
  | .addbImm imm8 => Sys2Proof.Machine.execAddbImm imm8 s
  | .ldxImm imm16 => Sys2Proof.Machine.execLdxImm imm16 s
  | .subbDir dir8 => Sys2Proof.Machine.execSubbDir dir8 s
  | .cmpbDir dir8 => Sys2Proof.Machine.execCmpbDir dir8 s
  | .sbcbDir dir8 => Sys2Proof.Machine.execSbcbDir dir8 s
  | .andbDir dir8 => Sys2Proof.Machine.execAndbDir dir8 s
  | .bitbDir dir8 => Sys2Proof.Machine.execBitbDir dir8 s
  | .ldabDir dir8 => Sys2Proof.Machine.execLdabDir dir8 s
  | .stabDir dir8 => Sys2Proof.Machine.execStabDir dir8 s
  | .eorbDir dir8 => Sys2Proof.Machine.execEorbDir dir8 s
  | .adcbDir dir8 => Sys2Proof.Machine.execAdcbDir dir8 s
  | .orabDir dir8 => Sys2Proof.Machine.execOrabDir dir8 s
  | .addbDir dir8 => Sys2Proof.Machine.execAddbDir dir8 s
  | .ldxDir dir8 => Sys2Proof.Machine.execLdxDir dir8 s
  | .stxDir dir8 => Sys2Proof.Machine.execStxDir dir8 s
  | .subbIdx off8 => Sys2Proof.Machine.execSubbIdx off8 s
  | .cmpbIdx off8 => Sys2Proof.Machine.execCmpbIdx off8 s
  | .sbcbIdx off8 => Sys2Proof.Machine.execSbcbIdx off8 s
  | .andbIdx off8 => Sys2Proof.Machine.execAndbIdx off8 s
  | .bitbIdx off8 => Sys2Proof.Machine.execBitbIdx off8 s
  | .ldabIdx off8 => Sys2Proof.Machine.execLdabIdx off8 s
  | .stabIdx off8 => Sys2Proof.Machine.execStabIdx off8 s
  | .eorbIdx off8 => Sys2Proof.Machine.execEorbIdx off8 s
  | .adcbIdx off8 => Sys2Proof.Machine.execAdcbIdx off8 s
  | .orabIdx off8 => Sys2Proof.Machine.execOrabIdx off8 s
  | .addbIdx off8 => Sys2Proof.Machine.execAddbIdx off8 s
  | .ldxIdx off8 => Sys2Proof.Machine.execLdxIdx off8 s
  | .stxIdx off8 => Sys2Proof.Machine.execStxIdx off8 s
  | .subbExt addr16 => Sys2Proof.Machine.execSubbExt addr16 s
  | .cmpbExt addr16 => Sys2Proof.Machine.execCmpbExt addr16 s
  | .sbcbExt addr16 => Sys2Proof.Machine.execSbcbExt addr16 s
  | .andbExt addr16 => Sys2Proof.Machine.execAndbExt addr16 s
  | .bitbExt addr16 => Sys2Proof.Machine.execBitbExt addr16 s
  | .ldabExt addr16 => Sys2Proof.Machine.execLdabExt addr16 s
  | .stabExt addr16 => Sys2Proof.Machine.execStabExt addr16 s
  | .eorbExt addr16 => Sys2Proof.Machine.execEorbExt addr16 s
  | .adcbExt addr16 => Sys2Proof.Machine.execAdcbExt addr16 s
  | .orabExt addr16 => Sys2Proof.Machine.execOrabExt addr16 s
  | .addbExt addr16 => Sys2Proof.Machine.execAddbExt addr16 s
  | .ldxExt addr16 => Sys2Proof.Machine.execLdxExt addr16 s
  | .stxExt addr16 => Sys2Proof.Machine.execStxExt addr16 s

end Sys2Proof.Machine
end

