-- ==== Sys2Proof/Machine/Fetch.lean ====
section
/-! DEFINITION. The instruction-fetch unit (R130 to R132) and the dispatcher's decode (R135): opcode and operand bytes are
read through the router one at a time, each read advancing `pc`. With it, how an instruction is placed where the next turn
fetches it. -/

namespace Sys2Proof.Machine

/-- `Fetch8()` (R130): the routed read at `pc`, then `pc + 1` modulo 65536 (R32). -/
def fetch8 (s : State) : Byte × State :=
  let r := memRead s.pc s
  (r.1, r.2.setPc (s.pc + 1#16))

/-- `Fetch16()` (R131): two fetches in ascending address order, assembled in `ENDIAN` order. -/
def fetch16 (s : State) : Word × State :=
  let r0 := fetch8 s
  let r1 := fetch8 r0.2
  (wordOfBytes Config.endian r0.1 r1.1, r1.2)

/-- Fetch one instruction (R134, R135): the opcode, then exactly the operand bytes its table entry calls for; `none` when
the opcode has no entry, with nothing fetched past it (R137). -/
def fetchInstr (s : State) : Option Instr × State :=
  let r := fetch8 s
  match optable r.1 with
  | none => (none, r.2)
  | some (.inh i) => (some i, r.2)
  | some (.byte f) =>
    let q := fetch8 r.2
    (some (f q.1), q.2)
  | some (.word f) =>
    let q := fetch16 r.2
    (some (f q.1), q.2)

/-- The routed reads of the three addresses from `pc` on come from `mem` (RAM or ROM). -/
def fetchesFromStore (map : MemMap) (pc : Word) : Bool :=
  let stored := fun a =>
    match resolve map a with
    | some .ram => true
    | some .rom => true
    | _ => false
  stored pc && stored (pc + 1#16) && stored (pc + 2#16)

/-- The state in which the very next turn fetches the given bytes (log 5): the bytes stand in `mem` at `pc`; where the map
does not route the fetch to `mem` it becomes one RAM segment; an interrupt that would be taken first is dropped; and if no
step of the host is in progress the budget is 1, which runs exactly one instruction (R383). -/
def placeInstr (bytes : List Byte) (s : State) : State :=
  { s with
    bus := { s.bus with
      mem := Memory.load s.bus.mem s.pc bytes
      map := if fetchesFromStore s.bus.map s.pc then s.bus.map else wholeRam }
    pend := { nmi := false, irq := s.pend.irq && s.cc.i }
    budget := if ended s then 1 else s.budget }

end Sys2Proof.Machine
end

