-- ==== Sys2Proof/Machine/Step.lean ====
section
/-! DEFINITION. One turn of the run loop (R133): the budget test at `L0`, the arbiter, the fetch of one instruction, and
its meaning. -/

namespace Sys2Proof.Machine

/-- One turn of the run loop of R133 (log 6). When the run of the host's step is over nothing happens until the host acts.
Otherwise the arbiter runs once (R361), then one instruction is fetched and executed without a further budget test (R368);
an opcode with no entry halts the step (R137). -/
def step (s : State) : Host.Outcome State Fault Refusal :=
  if ended s then .next s
  else
    match fetchInstr (arbitrate (ackCost s.loop) (s.setLoop .top)) with
    | (none, t) => .next (haltIllegal t)
    | (some i, t) => exec i t

/-- The instruction whose bits are `w` placed where the next turn fetches, so that `step` runs exactly it (log 5). -/
def State.withFetchWord (s : State) (nbits w : Nat) : State :=
  placeInstr (tableBytes nbits w) s

end Sys2Proof.Machine
end

