-- ==== Sys2Proof/Machine/HostPort.lean ====
section
/-! DEFINITION. The host transactions (R57), issued only between steps (R59, log 16): `reset`, `get_registers`,
`set_registers`, `step`, the construction of the memory map and the registration of a handler, and the loading of memory. -/

namespace Sys2Proof.Machine

/-- The register file as the host sees it (R26). -/
structure RegFile where
  a     : Byte
  b     : Byte
  x     : Word
  sp    : Word
  pc    : Word
  image : Byte
  deriving DecidableEq, Repr

/-- `get_registers()` (R26). -/
def getRegisters (s : State) : RegFile :=
  { a := s.a, b := s.b, x := s.x, sp := s.sp, pc := s.pc, image := s.cc.image }

/-- `set_registers(rf)` (R26): bits 7 and 6 of the flags byte are ignored (R36). -/
def setRegisters (rf : RegFile) (s : State) : State :=
  { s with a := rf.a, b := rf.b, x := rf.x, sp := rf.sp, pc := rf.pc, cc := Flags.ofImage rf.image }

/-- `reset(memory)` (R410): the flags, then the vector read, high byte first; `stop <- none`. `A`, `B`, `X`, `SP` are
unspecified (R412): free values (log 11). It writes nothing else (R413), and a wait is simply discarded (R414). -/
def resetTransaction (s : State) : State :=
  let r := loadVector Config.vecReset { s with cc := Flags.reset, stop := .none, loop := .top }
  { r with
    a := Config.unspecifiedByte (2 * s.resets)
    b := Config.unspecifiedByte (2 * s.resets + 1)
    x := Config.unspecifiedWord (2 * s.resets)
    sp := Config.unspecifiedWord (2 * s.resets + 1)
    resets := s.resets + 1 }

/-- The pending mask as the host passes it (R42): bit 1 is NMI, bit 0 is IRQ. -/
def Pend.ofMask (m : BitVec 2) : Pend :=
  { nmi := m.getLsbD 1, irq := m.getLsbD 0 }

/-- The latch as the host reads it after the step (R41, R42). -/
def Pend.mask (p : Pend) : BitVec 2 :=
  BitVec.ofBool p.nmi ++ BitVec.ofBool p.irq

/-- The start of a `step` transaction (R133): the latch and the budget are loaded from the arguments. -/
def beginStep (pending : BitVec 2) (budgetIn : Int) (s : State) : State :=
  { s with
    pend := Pend.ofMask pending, budget := budgetIn, budgetIn := budgetIn, stop := .budgetExhausted, loop := .top }

/-- The result of a step (R139). -/
def cyclesConsumed (s : State) : Int :=
  s.budgetIn - s.budget

/-- The turns of the run loop until it ends (R133), at most as many as the fuel; `none` when the fuel gives out or a turn
does not answer a next state. -/
def runLoop : Nat → State → Option State
  | 0, s => if ended s then some s else none
  | k + 1, s =>
    if ended s then some s
    else
      match step s with
      | .next t => runLoop k t
      | .fault _ => none
      | .refused _ => none

/-- `step(memory, pending_interrupts, cycle_budget) -> cycles_consumed` (R133, R139), with fuel for the turns. -/
def stepTransaction (fuel : Nat) (pending : BitVec 2) (budgetIn : Int) (s : State) : Option (Int × State) :=
  (runLoop fuel (beginStep pending budgetIn s)).map fun t => (cyclesConsumed t, t)

/-- Why a map and handler table are refused, if they are (R87, D25; which reason comes first is DESIGN CHOICE, log 17). -/
def misconfiguration (map : MemMap) (handlers : List HandlerId) : Option Misconfig :=
  if map.all Segment.fits = false then some .pastEnd
  else if MemMap.apart map = false then some .overlap
  else if map.all (Segment.handled handlers) = false then some .noHandler
  else none

/-- The construction of `MEMMAP` and `HANDLERS` (R87): a hard failure when they are not well formed. -/
def configure (map : MemMap) (handlers : List HandlerId) (s : State) : Host.Outcome State Fault Refusal :=
  match misconfiguration map handlers with
  | some why => .fault (.misconfiguration why)
  | none => .next (s.setBus { s.bus with map := map, handlers := handlers })

/-- Handler registration (R57, R62): the handler is bound to an address range (DEDUCED: a Device segment is appended to
the map, log 20). -/
def registerHandler (h : HandlerId) (base : Word) (length : Nat) (s : State) : Host.Outcome State Fault Refusal :=
  configure (s.bus.map ++ [{ base := base, length := length, kind := .device h }]) (h :: s.bus.handlers) s

/-- The host loads bytes of the memory image at rising addresses (R59, R420): it writes `mem` itself, ROM included (R77). -/
def loadImage (a : Word) (bytes : List Byte) (s : State) : State :=
  s.setBus { s.bus with mem := Memory.load s.bus.mem a bytes }

end Sys2Proof.Machine
end

