-- ==== Sys2Proof/Safety/Forms.lean ====
section
/-! DEFINITION. The families of instructions, as the terms claims use: the constructors of one operation gathered by
accumulator and operand form, with the opcode bytes and base costs that R108 and the instruction rules give each form. -/

namespace Sys2Proof.Machine

/-- The memory forms of the read-modify-write, `TST`, `CLR`, `JMP` and `JSR` instructions (R106): indexed and extended. -/
inductive IdxExt where
  | idx (off8 : Byte)
  | ext (addr16 : Word)
  deriving DecidableEq, Repr

/-- The addressing mode of an indexed or extended form. -/
def IdxExt.mode : IdxExt → MemMode
  | .idx o => .idx o
  | .ext a => .ext a

/-- The operand of a one-operand instruction: an accumulator, or memory. -/
inductive Target where
  | acc (r : Acc)
  | mem (m : IdxExt)
  deriving DecidableEq, Repr

/-- One of two values, by accumulator. -/
def byAcc {α : Type} (r : Acc) (forA forB : α) : α :=
  match r with
  | .a => forA
  | .b => forB

/-- The bytes of an 8-bit source form with opcodes for immediate, direct, indexed and extended (R104). -/
def srcBytes (opImm opDir opIdx opExt : Byte) : Src8 → List Byte
  | .imm v => [opImm, v]
  | .mem (.dir d) => [opDir, d]
  | .mem (.idx o) => [opIdx, o]
  | .mem (.ext a) => [opExt, highByte a, lowByte a]

/-- The bytes of a 16-bit source form (R104). -/
def src16Bytes (opImm opDir opIdx opExt : Byte) : Src16 → List Byte
  | .imm w => [opImm, highByte w, lowByte w]
  | .mem (.dir d) => [opDir, d]
  | .mem (.idx o) => [opIdx, o]
  | .mem (.ext a) => [opExt, highByte a, lowByte a]

/-- The bytes of a store form (R104). -/
def memBytes (opDir opIdx opExt : Byte) : MemMode → List Byte
  | .dir d => [opDir, d]
  | .idx o => [opIdx, o]
  | .ext a => [opExt, highByte a, lowByte a]

/-- The bytes of an indexed or extended form (R104). -/
def idxExtBytes (opIdx opExt : Byte) : IdxExt → List Byte
  | .idx o => [opIdx, o]
  | .ext a => [opExt, highByte a, lowByte a]

/-- The bytes of a one-operand instruction (R104). -/
def targetBytes (opA opB opIdx opExt : Byte) : Target → List Byte
  | .acc .a => [opA]
  | .acc .b => [opB]
  | .mem m => idxExtBytes opIdx opExt m

/-- The base cost of an 8-bit source form (R108, rows 8x to Fx). -/
def srcCost : Src8 → Nat
  | .imm _ => 2
  | .mem (.dir _) => 3
  | .mem (.idx _) => 5
  | .mem (.ext _) => 4

/-- The base cost of `LDX`, `LDS`, `CPX` (R108). -/
def src16Cost : Src16 → Nat
  | .imm _ => 3
  | .mem (.dir _) => 4
  | .mem (.idx _) => 6
  | .mem (.ext _) => 5

/-- The base cost of `STAA`, `STAB` (R108). -/
def storeCost : MemMode → Nat
  | .dir _ => 4
  | .idx _ => 6
  | .ext _ => 5

/-- The base cost of `STX`, `STS` (R108). -/
def store16Cost : MemMode → Nat
  | .dir _ => 5
  | .idx _ => 7
  | .ext _ => 6

/-- The base cost of a one-operand instruction (R108, rows 4x to 7x). -/
def targetCost : Target → Nat
  | .acc _ => 2
  | .mem (.idx _) => 7
  | .mem (.ext _) => 6

/-- SUBA and SUBB in their four forms (R243). -/
def Form.sub : Acc → Src8 → Instr
  | .a, .imm v => .subaImm v
  | .a, .mem (.dir d) => .subaDir d
  | .a, .mem (.idx o) => .subaIdx o
  | .a, .mem (.ext w) => .subaExt w
  | .b, .imm v => .subbImm v
  | .b, .mem (.dir d) => .subbDir d
  | .b, .mem (.idx o) => .subbIdx o
  | .b, .mem (.ext w) => .subbExt w

/-- CMPA and CMPB in their four forms (R246). -/
def Form.cmp : Acc → Src8 → Instr
  | .a, .imm v => .cmpaImm v
  | .a, .mem (.dir d) => .cmpaDir d
  | .a, .mem (.idx o) => .cmpaIdx o
  | .a, .mem (.ext w) => .cmpaExt w
  | .b, .imm v => .cmpbImm v
  | .b, .mem (.dir d) => .cmpbDir d
  | .b, .mem (.idx o) => .cmpbIdx o
  | .b, .mem (.ext w) => .cmpbExt w

/-- SBCA and SBCB in their four forms (R244). -/
def Form.sbc : Acc → Src8 → Instr
  | .a, .imm v => .sbcaImm v
  | .a, .mem (.dir d) => .sbcaDir d
  | .a, .mem (.idx o) => .sbcaIdx o
  | .a, .mem (.ext w) => .sbcaExt w
  | .b, .imm v => .sbcbImm v
  | .b, .mem (.dir d) => .sbcbDir d
  | .b, .mem (.idx o) => .sbcbIdx o
  | .b, .mem (.ext w) => .sbcbExt w

/-- ANDA and ANDB in their four forms (R280). -/
def Form.and : Acc → Src8 → Instr
  | .a, .imm v => .andaImm v
  | .a, .mem (.dir d) => .andaDir d
  | .a, .mem (.idx o) => .andaIdx o
  | .a, .mem (.ext w) => .andaExt w
  | .b, .imm v => .andbImm v
  | .b, .mem (.dir d) => .andbDir d
  | .b, .mem (.idx o) => .andbIdx o
  | .b, .mem (.ext w) => .andbExt w

/-- BITA and BITB in their four forms (R283). -/
def Form.bit : Acc → Src8 → Instr
  | .a, .imm v => .bitaImm v
  | .a, .mem (.dir d) => .bitaDir d
  | .a, .mem (.idx o) => .bitaIdx o
  | .a, .mem (.ext w) => .bitaExt w
  | .b, .imm v => .bitbImm v
  | .b, .mem (.dir d) => .bitbDir d
  | .b, .mem (.idx o) => .bitbIdx o
  | .b, .mem (.ext w) => .bitbExt w

/-- LDAA and LDAB in their four forms (R204). -/
def Form.lda : Acc → Src8 → Instr
  | .a, .imm v => .ldaaImm v
  | .a, .mem (.dir d) => .ldaaDir d
  | .a, .mem (.idx o) => .ldaaIdx o
  | .a, .mem (.ext w) => .ldaaExt w
  | .b, .imm v => .ldabImm v
  | .b, .mem (.dir d) => .ldabDir d
  | .b, .mem (.idx o) => .ldabIdx o
  | .b, .mem (.ext w) => .ldabExt w

/-- EORA and EORB in their four forms (R282). -/
def Form.eor : Acc → Src8 → Instr
  | .a, .imm v => .eoraImm v
  | .a, .mem (.dir d) => .eoraDir d
  | .a, .mem (.idx o) => .eoraIdx o
  | .a, .mem (.ext w) => .eoraExt w
  | .b, .imm v => .eorbImm v
  | .b, .mem (.dir d) => .eorbDir d
  | .b, .mem (.idx o) => .eorbIdx o
  | .b, .mem (.ext w) => .eorbExt w

/-- ADCA and ADCB in their four forms (R241). -/
def Form.adc : Acc → Src8 → Instr
  | .a, .imm v => .adcaImm v
  | .a, .mem (.dir d) => .adcaDir d
  | .a, .mem (.idx o) => .adcaIdx o
  | .a, .mem (.ext w) => .adcaExt w
  | .b, .imm v => .adcbImm v
  | .b, .mem (.dir d) => .adcbDir d
  | .b, .mem (.idx o) => .adcbIdx o
  | .b, .mem (.ext w) => .adcbExt w

/-- ORAA and ORAB in their four forms (R281). -/
def Form.ora : Acc → Src8 → Instr
  | .a, .imm v => .oraaImm v
  | .a, .mem (.dir d) => .oraaDir d
  | .a, .mem (.idx o) => .oraaIdx o
  | .a, .mem (.ext w) => .oraaExt w
  | .b, .imm v => .orabImm v
  | .b, .mem (.dir d) => .orabDir d
  | .b, .mem (.idx o) => .orabIdx o
  | .b, .mem (.ext w) => .orabExt w

/-- ADDA and ADDB in their four forms (R240). -/
def Form.add : Acc → Src8 → Instr
  | .a, .imm v => .addaImm v
  | .a, .mem (.dir d) => .addaDir d
  | .a, .mem (.idx o) => .addaIdx o
  | .a, .mem (.ext w) => .addaExt w
  | .b, .imm v => .addbImm v
  | .b, .mem (.dir d) => .addbDir d
  | .b, .mem (.idx o) => .addbIdx o
  | .b, .mem (.ext w) => .addbExt w

/-- STAA and STAB in their three forms (R205). -/
def Form.sta : Acc → MemMode → Instr
  | .a, .dir d => .staaDir d
  | .a, .idx o => .staaIdx o
  | .a, .ext w => .staaExt w
  | .b, .dir d => .stabDir d
  | .b, .idx o => .stabIdx o
  | .b, .ext w => .stabExt w

/-- LDX in its four forms (R206). -/
def Form.ldx : Src16 → Instr
  | .imm w => .ldxImm w
  | .mem (.dir d) => .ldxDir d
  | .mem (.idx o) => .ldxIdx o
  | .mem (.ext w) => .ldxExt w

/-- LDS in its four forms (R207). -/
def Form.lds : Src16 → Instr
  | .imm w => .ldsImm w
  | .mem (.dir d) => .ldsDir d
  | .mem (.idx o) => .ldsIdx o
  | .mem (.ext w) => .ldsExt w

/-- CPX in its four forms (R253). -/
def Form.cpx : Src16 → Instr
  | .imm w => .cpxImm w
  | .mem (.dir d) => .cpxDir d
  | .mem (.idx o) => .cpxIdx o
  | .mem (.ext w) => .cpxExt w

/-- STX in its three forms (R208). -/
def Form.stx : MemMode → Instr
  | .dir d => .stxDir d
  | .idx o => .stxIdx o
  | .ext w => .stxExt w

/-- STS in its three forms (R209). -/
def Form.sts : MemMode → Instr
  | .dir d => .stsDir d
  | .idx o => .stsIdx o
  | .ext w => .stsExt w

/-- NEGA, NEGB and NEG on memory (R248). -/
def Form.neg : Target → Instr
  | .acc .a => .nega
  | .acc .b => .negb
  | .mem (.idx o) => .negIdx o
  | .mem (.ext w) => .negExt w

/-- COMA, COMB and COM on memory (R284). -/
def Form.com : Target → Instr
  | .acc .a => .coma
  | .acc .b => .comb
  | .mem (.idx o) => .comIdx o
  | .mem (.ext w) => .comExt w

/-- LSRA, LSRB and LSR on memory (R287). -/
def Form.lsr : Target → Instr
  | .acc .a => .lsra
  | .acc .b => .lsrb
  | .mem (.idx o) => .lsrIdx o
  | .mem (.ext w) => .lsrExt w

/-- RORA, RORB and ROR on memory (R289). -/
def Form.ror : Target → Instr
  | .acc .a => .rora
  | .acc .b => .rorb
  | .mem (.idx o) => .rorIdx o
  | .mem (.ext w) => .rorExt w

/-- ASRA, ASRB and ASR on memory (R286). -/
def Form.asr : Target → Instr
  | .acc .a => .asra
  | .acc .b => .asrb
  | .mem (.idx o) => .asrIdx o
  | .mem (.ext w) => .asrExt w

/-- ASLA, ASLB and ASL on memory (R285). -/
def Form.asl : Target → Instr
  | .acc .a => .asla
  | .acc .b => .aslb
  | .mem (.idx o) => .aslIdx o
  | .mem (.ext w) => .aslExt w

/-- ROLA, ROLB and ROL on memory (R288). -/
def Form.rol : Target → Instr
  | .acc .a => .rola
  | .acc .b => .rolb
  | .mem (.idx o) => .rolIdx o
  | .mem (.ext w) => .rolExt w

/-- DECA, DECB and DEC on memory (R250). -/
def Form.dec : Target → Instr
  | .acc .a => .deca
  | .acc .b => .decb
  | .mem (.idx o) => .decIdx o
  | .mem (.ext w) => .decExt w

/-- INCA, INCB and INC on memory (R249). -/
def Form.inc : Target → Instr
  | .acc .a => .inca
  | .acc .b => .incb
  | .mem (.idx o) => .incIdx o
  | .mem (.ext w) => .incExt w

/-- TSTA, TSTB and TST on memory (R252). -/
def Form.tst : Target → Instr
  | .acc .a => .tsta
  | .acc .b => .tstb
  | .mem (.idx o) => .tstIdx o
  | .mem (.ext w) => .tstExt w

/-- CLRA, CLRB and CLR on memory (R218). -/
def Form.clr : Target → Instr
  | .acc .a => .clra
  | .acc .b => .clrb
  | .mem (.idx o) => .clrIdx o
  | .mem (.ext w) => .clrExt w

/-- JMP in its two forms (R327). -/
def Form.jmp : IdxExt → Instr
  | .idx o => .jmpIdx o
  | .ext w => .jmpExt w

/-- JSR in its two forms (R328). -/
def Form.jsr : IdxExt → Instr
  | .idx o => .jsrIdx o
  | .ext w => .jsrExt w

/-- PSHA and PSHB (R216). -/
def Form.psh : Acc → Instr
  | .a => .psha
  | .b => .pshb

/-- PULA and PULB (R217). -/
def Form.pul : Acc → Instr
  | .a => .pula
  | .b => .pulb

end Sys2Proof.Machine
end

