-- ==== Sys2Proof/Safety/Effects.lean ====
section
/-! DEFINITION. The effects of the instruction rules, as the terms claims use: routed operand reads, the write-back of a
one-operand instruction, pushes and the interrupt frame, and branch targets. They are written from the rules over the
routed byte access of R63 and R64, one access after another, not from the operations the meanings call. -/

namespace Sys2Proof.Machine

/-- `MemRead(a, 2)` as two routed reads, high byte first (R68): the word and the memory side after both. -/
def Bus.readBig (b : Bus) (a : Word) : Word × Bus :=
  let r0 := b.read a
  let r1 := r0.2.read (a + 1#16)
  (r0.1 ++ r1.1, r1.2)

/-- `MemWrite(a, 2, w)` as two routed writes, high byte first (R69). -/
def Bus.writeBig (b : Bus) (a : Word) (w : Word) : Bus :=
  (b.write a (highByte w)).write (a + 1#16) (lowByte w)

/-- The bytes that as many fetches from an address on give, one routed read after another (R130 to R132), and the memory
side after them. -/
def Bus.fetched : Bus → Word → Nat → List Byte × Bus
  | b, _, 0 => ([], b)
  | b, a, n + 1 =>
    let r := b.read a
    let q := Bus.fetched r.2 (a + 1#16) n
    (r.1 :: q.1, q.2)

/-- The routed writes of a run of pushes (R200): the bytes of the list at falling addresses from `sp` on. -/
def Bus.pushed : Bus → Word → List Byte → Bus
  | b, _, [] => b
  | b, sp, v :: vs => Bus.pushed (b.write sp v) (sp - 1#16) vs

/-- The same pushes on a plain store, every address being RAM. -/
def Memory.pushed : Memory → Word → List Byte → Memory
  | m, _, [] => m
  | m, sp, v :: vs => Memory.pushed (Memory.write m sp v) (sp - 1#16) vs

/-- An 8-bit source operand, and the memory side after it is read (R148). -/
def sourceByte (src : Src8) (s : State) : Byte × Bus :=
  match src with
  | .imm v => (v, s.bus)
  | .mem m => s.bus.read (ea m s)

/-- A 16-bit source operand, and the memory side after it is read (R148). -/
def sourceWord (src : Src16) (s : State) : Word × Bus :=
  match src with
  | .imm w => (w, s.bus)
  | .mem m => s.bus.readBig (ea m s)

/-- The operand of a one-operand instruction, and the memory side after it is read (R148). -/
def targetByte (t : Target) (s : State) : Byte × Bus :=
  match t with
  | .acc r => (byAcc r s.a s.b, s.bus)
  | .mem m => s.bus.read (ea m.mode s)

/-- The state with a result in one accumulator. -/
def State.withAcc (s : State) (r : Acc) (v : Byte) : State :=
  { s with a := byAcc r v s.a, b := byAcc r s.b v }

/-- The state after a one-operand instruction has read its operand and written `res` back (R148): an accumulator is
written, or memory is read once and then written once at the same address. -/
def State.modified (s : State) (t : Target) (res : Byte) : State :=
  match t with
  | .acc r => s.withAcc r res
  | .mem m => { s with bus := (targetByte t s).2.write (ea m.mode s) res }

/-- The address past an instruction plus a signed offset, modulo 65536 (R146). -/
def branchTarget (pc : Word) (rel8 : Byte) : Word :=
  BitVec.ofInt 16 ((pc.toNat : Int) + rel8.toInt)

/-- The state after a branch (R310): `pc` at the target if taken, four cycles charged either way. -/
def State.branched (s : State) (taken : Bool) (rel8 : Byte) : State :=
  { s with pc := if taken then branchTarget s.pc rel8 else s.pc, budget := s.budget - 4 }

/-- The seven bytes an interrupt entry pushes, in order (R366, R340). -/
def frameBytes (s : State) : List Byte :=
  [lowByte s.pc, highByte s.pc, lowByte s.x, highByte s.x, s.a, s.b, s.cc.image]

/-- The state after an interrupt entry (R366, R340): the frame pushed, `I` set, the cost charged, `pc` read from the
vector. -/
def State.entered (s : State) (vector : Word) (cost : Nat) : State :=
  let r := (s.bus.pushed s.sp (frameBytes s)).readBig vector
  { s with sp := s.sp - 7#16, cc := { s.cc with i := true }, budget := s.budget - cost, pc := r.1, bus := r.2 }

/-- A true signed result that does not fit in eight bits (R162). -/
def overflows8 (r : Int) : Bool :=
  decide (r < -128 ∨ 127 < r)

/-- The sum of two bytes and a carry as R161 to R163 read it: the byte; `H` the carry out of the low nibble, `C` the carry
out of bit 7, `V` set when the true signed sum does not fit. -/
def sumFlags (f : Flags) (a m : Byte) (cin : Bool) : Byte × Flags :=
  let r := BitVec.ofNat 8 (a.toNat + m.toNat + cin.toNat)
  (r, { f with
    h := decide (15 < a.toNat % 16 + m.toNat % 16 + cin.toNat)
    n := r.msb
    z := r == 0#8
    v := overflows8 (a.toInt + m.toInt + cin.toNat)
    c := decide (255 < a.toNat + m.toNat + cin.toNat) })

/-- The difference of two bytes and a borrow as R164 and R165 read it: the byte; `C` the borrow, `V` set when the true
signed difference does not fit, `H` kept. -/
def differenceFlags (f : Flags) (a m : Byte) (bin : Bool) : Byte × Flags :=
  let r := BitVec.ofNat 8 (a.toNat + 512 - m.toNat - bin.toNat)
  (r, { f with
    n := r.msb
    z := r == 0#8
    v := overflows8 (a.toInt - m.toInt - bin.toNat)
    c := decide (a.toNat < m.toNat + bin.toNat) })

/-- The flags of a shift or rotate (R172): `N`, `Z` from the result, `C` the bit shifted out, `V = N xor C` of the new
values. -/
def shiftFlags (f : Flags) (r : Byte) (out : Bool) : Flags :=
  { f with n := r.msb, z := r == 0#8, v := xor r.msb out, c := out }

/-- The decimal value of a packed-BCD byte. -/
def bcdValue (v : Byte) : Nat :=
  10 * (v.toNat / 16) + v.toNat % 16

/-- Both nibbles are decimal digits. -/
def isBcd (v : Byte) : Bool :=
  decide (v.toNat / 16 ≤ 9) && decide (v.toNat % 16 ≤ 9)

end Sys2Proof.Machine
end

