-- ==== Sys2Proof/Safety/Tables.lean ====
section
/-! DEFINITION. The spec's own tables over all instructions, as the terms claims use: which instructions write each
register (R22) and each flag (R37), which store to memory and where, and the base cost by opcode row (R108). They are
written from those tables, not from the meanings. -/

namespace Sys2Proof.Machine

/-- `A` is written by (R22). -/
def writesA (i : Instr) : Bool :=
  match i with
  | .tpa | .sba | .tba | .daa | .aba | .pula | .rti | .nega | .coma | .lsra | .rora | .asra | .asla | .rola
  | .deca | .inca | .clra | .subaImm _ | .sbcaImm _ | .andaImm _ | .ldaaImm _ | .eoraImm _ | .adcaImm _
  | .oraaImm _ | .addaImm _ | .subaDir _ | .sbcaDir _ | .andaDir _ | .ldaaDir _ | .eoraDir _ | .adcaDir _
  | .oraaDir _ | .addaDir _ | .subaIdx _ | .sbcaIdx _ | .andaIdx _ | .ldaaIdx _ | .eoraIdx _ | .adcaIdx _
  | .oraaIdx _ | .addaIdx _ | .subaExt _ | .sbcaExt _ | .andaExt _ | .ldaaExt _ | .eoraExt _ | .adcaExt _
  | .oraaExt _ | .addaExt _ => true
  | _ => false

/-- `B` is written by (R22). -/
def writesB (i : Instr) : Bool :=
  match i with
  | .tab | .pulb | .rti | .negb | .comb | .lsrb | .rorb | .asrb | .aslb | .rolb | .decb | .incb | .clrb
  | .subbImm _ | .sbcbImm _ | .andbImm _ | .ldabImm _ | .eorbImm _ | .adcbImm _ | .orabImm _ | .addbImm _
  | .subbDir _ | .sbcbDir _ | .andbDir _ | .ldabDir _ | .eorbDir _ | .adcbDir _ | .orabDir _ | .addbDir _
  | .subbIdx _ | .sbcbIdx _ | .andbIdx _ | .ldabIdx _ | .eorbIdx _ | .adcbIdx _ | .orabIdx _ | .addbIdx _
  | .subbExt _ | .sbcbExt _ | .andbExt _ | .ldabExt _ | .eorbExt _ | .adcbExt _ | .orabExt _ | .addbExt _ => true
  | _ => false

/-- `X` is written by (R22). -/
def writesX (i : Instr) : Bool :=
  match i with
  | .inx | .dex | .tsx | .rti | .ldxImm _ | .ldxDir _ | .ldxIdx _ | .ldxExt _ => true
  | _ => false

/-- `SP` is written by (R22). -/
def writesSp (i : Instr) : Bool :=
  match i with
  | .ins | .pula | .pulb | .des | .txs | .psha | .pshb | .rts | .rti | .swi | .bsr _ | .ldsImm _ | .ldsDir _
  | .jsrIdx _ | .ldsIdx _ | .jsrExt _ | .ldsExt _ => true
  | _ => false

/-- `H` is written by (R37): ADD, ADC, ABA, TAP, RTI. -/
def writesH (i : Instr) : Bool :=
  match i with
  | .tap | .aba | .rti | .adcaImm _ | .addaImm _ | .adcaDir _ | .addaDir _ | .adcaIdx _ | .addaIdx _
  | .adcaExt _ | .addaExt _ | .adcbImm _ | .addbImm _ | .adcbDir _ | .addbDir _ | .adcbIdx _ | .addbIdx _
  | .adcbExt _ | .addbExt _ => true
  | _ => false

/-- `I` is written by (R37): CLI, SEI, TAP, RTI, SWI. -/
def writesI (i : Instr) : Bool :=
  match i with
  | .tap | .cli | .sei | .rti | .swi => true
  | _ => false

/-- `N` is written by (R37). -/
def writesN (i : Instr) : Bool :=
  match i with
  | .tap | .sba | .cba | .tab | .tba | .daa | .aba | .rti | .nega | .coma | .lsra | .rora | .asra | .asla
  | .rola | .deca | .inca | .tsta | .clra | .negb | .comb | .lsrb | .rorb | .asrb | .aslb | .rolb | .decb
  | .incb | .tstb | .clrb | .negIdx _ | .comIdx _ | .lsrIdx _ | .rorIdx _ | .asrIdx _ | .aslIdx _ | .rolIdx _
  | .decIdx _ | .incIdx _ | .tstIdx _ | .clrIdx _ | .negExt _ | .comExt _ | .lsrExt _ | .rorExt _ | .asrExt _
  | .aslExt _ | .rolExt _ | .decExt _ | .incExt _ | .tstExt _ | .clrExt _ | .subaImm _ | .cmpaImm _
  | .sbcaImm _ | .andaImm _ | .bitaImm _ | .ldaaImm _ | .eoraImm _ | .adcaImm _ | .oraaImm _ | .addaImm _
  | .cpxImm _ | .ldsImm _ | .subaDir _ | .cmpaDir _ | .sbcaDir _ | .andaDir _ | .bitaDir _ | .ldaaDir _
  | .staaDir _ | .eoraDir _ | .adcaDir _ | .oraaDir _ | .addaDir _ | .cpxDir _ | .ldsDir _ | .stsDir _
  | .subaIdx _ | .cmpaIdx _ | .sbcaIdx _ | .andaIdx _ | .bitaIdx _ | .ldaaIdx _ | .staaIdx _ | .eoraIdx _
  | .adcaIdx _ | .oraaIdx _ | .addaIdx _ | .cpxIdx _ | .ldsIdx _ | .stsIdx _ | .subaExt _ | .cmpaExt _
  | .sbcaExt _ | .andaExt _ | .bitaExt _ | .ldaaExt _ | .staaExt _ | .eoraExt _ | .adcaExt _ | .oraaExt _
  | .addaExt _ | .cpxExt _ | .ldsExt _ | .stsExt _ | .subbImm _ | .cmpbImm _ | .sbcbImm _ | .andbImm _
  | .bitbImm _ | .ldabImm _ | .eorbImm _ | .adcbImm _ | .orabImm _ | .addbImm _ | .ldxImm _ | .subbDir _
  | .cmpbDir _ | .sbcbDir _ | .andbDir _ | .bitbDir _ | .ldabDir _ | .stabDir _ | .eorbDir _ | .adcbDir _
  | .orabDir _ | .addbDir _ | .ldxDir _ | .stxDir _ | .subbIdx _ | .cmpbIdx _ | .sbcbIdx _ | .andbIdx _
  | .bitbIdx _ | .ldabIdx _ | .stabIdx _ | .eorbIdx _ | .adcbIdx _ | .orabIdx _ | .addbIdx _ | .ldxIdx _
  | .stxIdx _ | .subbExt _ | .cmpbExt _ | .sbcbExt _ | .andbExt _ | .bitbExt _ | .ldabExt _ | .stabExt _
  | .eorbExt _ | .adcbExt _ | .orabExt _ | .addbExt _ | .ldxExt _ | .stxExt _ => true
  | _ => false

/-- `Z` is written by (R37): those that write `N`, and INX, DEX. -/
def writesZ (i : Instr) : Bool :=
  match i with
  | .tap | .inx | .dex | .sba | .cba | .tab | .tba | .daa | .aba | .rti | .nega | .coma | .lsra | .rora | .asra
  | .asla | .rola | .deca | .inca | .tsta | .clra | .negb | .comb | .lsrb | .rorb | .asrb | .aslb | .rolb
  | .decb | .incb | .tstb | .clrb | .negIdx _ | .comIdx _ | .lsrIdx _ | .rorIdx _ | .asrIdx _ | .aslIdx _
  | .rolIdx _ | .decIdx _ | .incIdx _ | .tstIdx _ | .clrIdx _ | .negExt _ | .comExt _ | .lsrExt _ | .rorExt _
  | .asrExt _ | .aslExt _ | .rolExt _ | .decExt _ | .incExt _ | .tstExt _ | .clrExt _ | .subaImm _ | .cmpaImm _
  | .sbcaImm _ | .andaImm _ | .bitaImm _ | .ldaaImm _ | .eoraImm _ | .adcaImm _ | .oraaImm _ | .addaImm _
  | .cpxImm _ | .ldsImm _ | .subaDir _ | .cmpaDir _ | .sbcaDir _ | .andaDir _ | .bitaDir _ | .ldaaDir _
  | .staaDir _ | .eoraDir _ | .adcaDir _ | .oraaDir _ | .addaDir _ | .cpxDir _ | .ldsDir _ | .stsDir _
  | .subaIdx _ | .cmpaIdx _ | .sbcaIdx _ | .andaIdx _ | .bitaIdx _ | .ldaaIdx _ | .staaIdx _ | .eoraIdx _
  | .adcaIdx _ | .oraaIdx _ | .addaIdx _ | .cpxIdx _ | .ldsIdx _ | .stsIdx _ | .subaExt _ | .cmpaExt _
  | .sbcaExt _ | .andaExt _ | .bitaExt _ | .ldaaExt _ | .staaExt _ | .eoraExt _ | .adcaExt _ | .oraaExt _
  | .addaExt _ | .cpxExt _ | .ldsExt _ | .stsExt _ | .subbImm _ | .cmpbImm _ | .sbcbImm _ | .andbImm _
  | .bitbImm _ | .ldabImm _ | .eorbImm _ | .adcbImm _ | .orabImm _ | .addbImm _ | .ldxImm _ | .subbDir _
  | .cmpbDir _ | .sbcbDir _ | .andbDir _ | .bitbDir _ | .ldabDir _ | .stabDir _ | .eorbDir _ | .adcbDir _
  | .orabDir _ | .addbDir _ | .ldxDir _ | .stxDir _ | .subbIdx _ | .cmpbIdx _ | .sbcbIdx _ | .andbIdx _
  | .bitbIdx _ | .ldabIdx _ | .stabIdx _ | .eorbIdx _ | .adcbIdx _ | .orabIdx _ | .addbIdx _ | .ldxIdx _
  | .stxIdx _ | .subbExt _ | .cmpbExt _ | .sbcbExt _ | .andbExt _ | .bitbExt _ | .ldabExt _ | .stabExt _
  | .eorbExt _ | .adcbExt _ | .orabExt _ | .addbExt _ | .ldxExt _ | .stxExt _ => true
  | _ => false

/-- `V` is written by (R37): those that write `N`, and CLV, SEV. -/
def writesV (i : Instr) : Bool :=
  match i with
  | .tap | .clv | .sev | .sba | .cba | .tab | .tba | .daa | .aba | .rti | .nega | .coma | .lsra | .rora | .asra
  | .asla | .rola | .deca | .inca | .tsta | .clra | .negb | .comb | .lsrb | .rorb | .asrb | .aslb | .rolb
  | .decb | .incb | .tstb | .clrb | .negIdx _ | .comIdx _ | .lsrIdx _ | .rorIdx _ | .asrIdx _ | .aslIdx _
  | .rolIdx _ | .decIdx _ | .incIdx _ | .tstIdx _ | .clrIdx _ | .negExt _ | .comExt _ | .lsrExt _ | .rorExt _
  | .asrExt _ | .aslExt _ | .rolExt _ | .decExt _ | .incExt _ | .tstExt _ | .clrExt _ | .subaImm _ | .cmpaImm _
  | .sbcaImm _ | .andaImm _ | .bitaImm _ | .ldaaImm _ | .eoraImm _ | .adcaImm _ | .oraaImm _ | .addaImm _
  | .cpxImm _ | .ldsImm _ | .subaDir _ | .cmpaDir _ | .sbcaDir _ | .andaDir _ | .bitaDir _ | .ldaaDir _
  | .staaDir _ | .eoraDir _ | .adcaDir _ | .oraaDir _ | .addaDir _ | .cpxDir _ | .ldsDir _ | .stsDir _
  | .subaIdx _ | .cmpaIdx _ | .sbcaIdx _ | .andaIdx _ | .bitaIdx _ | .ldaaIdx _ | .staaIdx _ | .eoraIdx _
  | .adcaIdx _ | .oraaIdx _ | .addaIdx _ | .cpxIdx _ | .ldsIdx _ | .stsIdx _ | .subaExt _ | .cmpaExt _
  | .sbcaExt _ | .andaExt _ | .bitaExt _ | .ldaaExt _ | .staaExt _ | .eoraExt _ | .adcaExt _ | .oraaExt _
  | .addaExt _ | .cpxExt _ | .ldsExt _ | .stsExt _ | .subbImm _ | .cmpbImm _ | .sbcbImm _ | .andbImm _
  | .bitbImm _ | .ldabImm _ | .eorbImm _ | .adcbImm _ | .orabImm _ | .addbImm _ | .ldxImm _ | .subbDir _
  | .cmpbDir _ | .sbcbDir _ | .andbDir _ | .bitbDir _ | .ldabDir _ | .stabDir _ | .eorbDir _ | .adcbDir _
  | .orabDir _ | .addbDir _ | .ldxDir _ | .stxDir _ | .subbIdx _ | .cmpbIdx _ | .sbcbIdx _ | .andbIdx _
  | .bitbIdx _ | .ldabIdx _ | .stabIdx _ | .eorbIdx _ | .adcbIdx _ | .orabIdx _ | .addbIdx _ | .ldxIdx _
  | .stxIdx _ | .subbExt _ | .cmpbExt _ | .sbcbExt _ | .andbExt _ | .bitbExt _ | .ldabExt _ | .stabExt _
  | .eorbExt _ | .adcbExt _ | .orabExt _ | .addbExt _ | .ldxExt _ | .stxExt _ => true
  | _ => false

/-- `C` is written by (R37). -/
def writesC (i : Instr) : Bool :=
  match i with
  | .tap | .clc | .sec | .sba | .cba | .daa | .aba | .rti | .nega | .coma | .lsra | .rora | .asra | .asla
  | .rola | .tsta | .clra | .negb | .comb | .lsrb | .rorb | .asrb | .aslb | .rolb | .tstb | .clrb | .negIdx _
  | .comIdx _ | .lsrIdx _ | .rorIdx _ | .asrIdx _ | .aslIdx _ | .rolIdx _ | .tstIdx _ | .clrIdx _ | .negExt _
  | .comExt _ | .lsrExt _ | .rorExt _ | .asrExt _ | .aslExt _ | .rolExt _ | .tstExt _ | .clrExt _ | .subaImm _
  | .cmpaImm _ | .sbcaImm _ | .adcaImm _ | .addaImm _ | .subaDir _ | .cmpaDir _ | .sbcaDir _ | .adcaDir _
  | .addaDir _ | .subaIdx _ | .cmpaIdx _ | .sbcaIdx _ | .adcaIdx _ | .addaIdx _ | .subaExt _ | .cmpaExt _
  | .sbcaExt _ | .adcaExt _ | .addaExt _ | .subbImm _ | .cmpbImm _ | .sbcbImm _ | .adcbImm _ | .addbImm _
  | .subbDir _ | .cmpbDir _ | .sbcbDir _ | .adcbDir _ | .addbDir _ | .subbIdx _ | .cmpbIdx _ | .sbcbIdx _
  | .adcbIdx _ | .addbIdx _ | .subbExt _ | .cmpbExt _ | .sbcbExt _ | .adcbExt _ | .addbExt _ => true
  | _ => false

/-- The addresses of the bytes an instruction stores to, computed at the state in which it executes (R205, R208, R209,
R218, R148, R216, R326, R328, R340). -/
def storedAt (i : Instr) (s : State) : List Word :=
  match i with
  | .psha => [s.sp]
  | .pshb => [s.sp]
  | .swi => [s.sp, s.sp - 1#16, s.sp - 2#16, s.sp - 3#16, s.sp - 4#16, s.sp - 5#16, s.sp - 6#16]
  | .negIdx v => [ea (.idx v) s]
  | .comIdx v => [ea (.idx v) s]
  | .lsrIdx v => [ea (.idx v) s]
  | .rorIdx v => [ea (.idx v) s]
  | .asrIdx v => [ea (.idx v) s]
  | .aslIdx v => [ea (.idx v) s]
  | .rolIdx v => [ea (.idx v) s]
  | .decIdx v => [ea (.idx v) s]
  | .incIdx v => [ea (.idx v) s]
  | .clrIdx v => [ea (.idx v) s]
  | .negExt v => [ea (.ext v) s]
  | .comExt v => [ea (.ext v) s]
  | .lsrExt v => [ea (.ext v) s]
  | .rorExt v => [ea (.ext v) s]
  | .asrExt v => [ea (.ext v) s]
  | .aslExt v => [ea (.ext v) s]
  | .rolExt v => [ea (.ext v) s]
  | .decExt v => [ea (.ext v) s]
  | .incExt v => [ea (.ext v) s]
  | .clrExt v => [ea (.ext v) s]
  | .bsr _ => [s.sp, s.sp - 1#16]
  | .staaDir v => [ea (.dir v) s]
  | .stsDir v => [ea (.dir v) s, ea (.dir v) s + 1#16]
  | .staaIdx v => [ea (.idx v) s]
  | .jsrIdx _ => [s.sp, s.sp - 1#16]
  | .stsIdx v => [ea (.idx v) s, ea (.idx v) s + 1#16]
  | .staaExt v => [ea (.ext v) s]
  | .jsrExt _ => [s.sp, s.sp - 1#16]
  | .stsExt v => [ea (.ext v) s, ea (.ext v) s + 1#16]
  | .stabDir v => [ea (.dir v) s]
  | .stxDir v => [ea (.dir v) s, ea (.dir v) s + 1#16]
  | .stabIdx v => [ea (.idx v) s]
  | .stxIdx v => [ea (.idx v) s, ea (.idx v) s + 1#16]
  | .stabExt v => [ea (.ext v) s]
  | .stxExt v => [ea (.ext v) s, ea (.ext v) s + 1#16]
  | _ => []

/-- The addresses of the bytes an instruction reads as data, computed at the state in which it executes (R148, R201, R203,
R340, R341). -/
def readAt (i : Instr) (s : State) : List Word :=
  match i with
  | .pula => [s.sp + 1#16]
  | .pulb => [s.sp + 1#16]
  | .rts => [s.sp + 1#16, s.sp + 2#16]
  | .rti => [s.sp + 1#16, s.sp + 2#16, s.sp + 3#16, s.sp + 4#16, s.sp + 5#16, s.sp + 6#16, s.sp + 7#16]
  | .swi => [0xFFFA#16, 0xFFFB#16]
  | .negIdx v => [ea (.idx v) s]
  | .comIdx v => [ea (.idx v) s]
  | .lsrIdx v => [ea (.idx v) s]
  | .rorIdx v => [ea (.idx v) s]
  | .asrIdx v => [ea (.idx v) s]
  | .aslIdx v => [ea (.idx v) s]
  | .rolIdx v => [ea (.idx v) s]
  | .decIdx v => [ea (.idx v) s]
  | .incIdx v => [ea (.idx v) s]
  | .tstIdx v => [ea (.idx v) s]
  | .negExt v => [ea (.ext v) s]
  | .comExt v => [ea (.ext v) s]
  | .lsrExt v => [ea (.ext v) s]
  | .rorExt v => [ea (.ext v) s]
  | .asrExt v => [ea (.ext v) s]
  | .aslExt v => [ea (.ext v) s]
  | .rolExt v => [ea (.ext v) s]
  | .decExt v => [ea (.ext v) s]
  | .incExt v => [ea (.ext v) s]
  | .tstExt v => [ea (.ext v) s]
  | .subaDir v => [ea (.dir v) s]
  | .cmpaDir v => [ea (.dir v) s]
  | .sbcaDir v => [ea (.dir v) s]
  | .andaDir v => [ea (.dir v) s]
  | .bitaDir v => [ea (.dir v) s]
  | .ldaaDir v => [ea (.dir v) s]
  | .eoraDir v => [ea (.dir v) s]
  | .adcaDir v => [ea (.dir v) s]
  | .oraaDir v => [ea (.dir v) s]
  | .addaDir v => [ea (.dir v) s]
  | .cpxDir v => [ea (.dir v) s, ea (.dir v) s + 1#16]
  | .ldsDir v => [ea (.dir v) s, ea (.dir v) s + 1#16]
  | .subaIdx v => [ea (.idx v) s]
  | .cmpaIdx v => [ea (.idx v) s]
  | .sbcaIdx v => [ea (.idx v) s]
  | .andaIdx v => [ea (.idx v) s]
  | .bitaIdx v => [ea (.idx v) s]
  | .ldaaIdx v => [ea (.idx v) s]
  | .eoraIdx v => [ea (.idx v) s]
  | .adcaIdx v => [ea (.idx v) s]
  | .oraaIdx v => [ea (.idx v) s]
  | .addaIdx v => [ea (.idx v) s]
  | .cpxIdx v => [ea (.idx v) s, ea (.idx v) s + 1#16]
  | .ldsIdx v => [ea (.idx v) s, ea (.idx v) s + 1#16]
  | .subaExt v => [ea (.ext v) s]
  | .cmpaExt v => [ea (.ext v) s]
  | .sbcaExt v => [ea (.ext v) s]
  | .andaExt v => [ea (.ext v) s]
  | .bitaExt v => [ea (.ext v) s]
  | .ldaaExt v => [ea (.ext v) s]
  | .eoraExt v => [ea (.ext v) s]
  | .adcaExt v => [ea (.ext v) s]
  | .oraaExt v => [ea (.ext v) s]
  | .addaExt v => [ea (.ext v) s]
  | .cpxExt v => [ea (.ext v) s, ea (.ext v) s + 1#16]
  | .ldsExt v => [ea (.ext v) s, ea (.ext v) s + 1#16]
  | .subbDir v => [ea (.dir v) s]
  | .cmpbDir v => [ea (.dir v) s]
  | .sbcbDir v => [ea (.dir v) s]
  | .andbDir v => [ea (.dir v) s]
  | .bitbDir v => [ea (.dir v) s]
  | .ldabDir v => [ea (.dir v) s]
  | .eorbDir v => [ea (.dir v) s]
  | .adcbDir v => [ea (.dir v) s]
  | .orabDir v => [ea (.dir v) s]
  | .addbDir v => [ea (.dir v) s]
  | .ldxDir v => [ea (.dir v) s, ea (.dir v) s + 1#16]
  | .subbIdx v => [ea (.idx v) s]
  | .cmpbIdx v => [ea (.idx v) s]
  | .sbcbIdx v => [ea (.idx v) s]
  | .andbIdx v => [ea (.idx v) s]
  | .bitbIdx v => [ea (.idx v) s]
  | .ldabIdx v => [ea (.idx v) s]
  | .eorbIdx v => [ea (.idx v) s]
  | .adcbIdx v => [ea (.idx v) s]
  | .orabIdx v => [ea (.idx v) s]
  | .addbIdx v => [ea (.idx v) s]
  | .ldxIdx v => [ea (.idx v) s, ea (.idx v) s + 1#16]
  | .subbExt v => [ea (.ext v) s]
  | .cmpbExt v => [ea (.ext v) s]
  | .sbcbExt v => [ea (.ext v) s]
  | .andbExt v => [ea (.ext v) s]
  | .bitbExt v => [ea (.ext v) s]
  | .ldabExt v => [ea (.ext v) s]
  | .eorbExt v => [ea (.ext v) s]
  | .adcbExt v => [ea (.ext v) s]
  | .orabExt v => [ea (.ext v) s]
  | .addbExt v => [ea (.ext v) s]
  | .ldxExt v => [ea (.ext v) s, ea (.ext v) s + 1#16]
  | _ => []

/-- Every address an instruction accesses as data. -/
def accessedAt (i : Instr) (s : State) : List Word :=
  storedAt i s ++ readAt i s

/-- The base cost by opcode row and column (R108). -/
def rowCost (op : Nat) : Nat :=
  let hi := op / 16
  let lo := op % 16
  if hi = 0x0 ∨ hi = 0x1 then (if op = 0x08 ∨ op = 0x09 then 4 else 2)
  else if hi = 0x2 then 4
  else if hi = 0x3 then
    (if op = 0x39 then 5 else if op = 0x3B then 10 else if op = 0x3E then 9 else if op = 0x3F then 12 else 4)
  else if hi = 0x4 ∨ hi = 0x5 then 2
  else if hi = 0x6 then (if lo = 0xE then 4 else 7)
  else if hi = 0x7 then (if lo = 0xE then 3 else 6)
  else if hi = 0x8 ∨ hi = 0xC then (if op = 0x8D then 8 else if lo = 0xC ∨ lo = 0xE then 3 else 2)
  else if hi = 0x9 ∨ hi = 0xD then (if lo = 0x7 ∨ lo = 0xC ∨ lo = 0xE then 4 else if lo = 0xF then 5 else 3)
  else if hi = 0xA ∨ hi = 0xE then
    (if lo = 0x7 ∨ lo = 0xC ∨ lo = 0xE then 6 else if lo = 0xF then 7 else if lo = 0xD then 8 else 5)
  else (if lo = 0x7 ∨ lo = 0xC ∨ lo = 0xE then 5 else if lo = 0xF then 6 else if lo = 0xD then 9 else 4)

/-- The base cost of an instruction (R108), read off its opcode byte. -/
def baseCost (i : Instr) : Nat :=
  rowCost ((encode i).headD 0).toNat

end Sys2Proof.Machine
end

