-- ==== Sys2Proof/Safety.lean ====
section
/-! DEFINITION. What counts as a safe run, in the terms claims use: the memory is in its canonical form, the map and
handler table are a legal configuration (R87), and the control state is in order (R137, R138); addresses whose accesses call
no handler (R74). -/

namespace Sys2Proof.Machine

/-- The invariant of every run: `mem` is canonical, and `MEMMAP` with `HANDLERS` is a legal configuration (R87). -/
def State.wf (s : State) : Bool :=
  Memory.wf s.bus.mem && MemMap.wf s.bus.map s.bus.handlers

/-- The control state is in order between turns: after a halt the host's step is over with the budget 0 (R137, R138), and
a turn that begins at the arbiter after a `WAI` finds an IRQ pending and masked, and no NMI (R138, R365). -/
def State.controlWf (s : State) : Bool :=
  (s.stop == .none || s.stop == .budgetExhausted || (decide (s.budget = 0) && s.loop == .top)) &&
    (s.loop == .top || (s.pend == { nmi := false, irq := true } && s.cc.i))

/-- An access to any of the addresses calls no device handler (R74). -/
def State.plainAt (s : State) (as : List Word) : Bool :=
  as.all s.bus.plain

/-- The address resolves to RAM, so that a write there is kept (R64). -/
def State.ramAt (s : State) (a : Word) : Bool :=
  resolve s.bus.map a == some .ram

/-- The bytes stand in `mem` at rising addresses from `a` on, modulo 65536, each in a RAM or ROM segment (R63). -/
def State.storesAt (s : State) : Word → List Byte → Prop
  | _, [] => True
  | a, v :: vs =>
    (resolve s.bus.map a = some .ram ∨ resolve s.bus.map a = some .rom) ∧ s.bus.mem.read a = v ∧
      State.storesAt s (a + 1#16) vs

/-- The seven addresses of an interrupt frame pushed at `sp` (R366). -/
def frameAddrs (sp : Word) : List Word :=
  [sp, sp - 1#16, sp - 2#16, sp - 3#16, sp - 4#16, sp - 5#16, sp - 6#16]

/-- The machine after a finite run of turns (`Host.Core.run`) has answered a next state. -/
def Reaches (s t : State) : Prop :=
  ∃ n, Sys2Proof.core.run n s = .next t

end Sys2Proof.Machine
end

