-- ==== Sys2Proof/Certificates/Slice0/Obligations.lean ====
section
/-! DEFINITION. The statements for the provers. Each docstring names the rule of `spec/` it formalises; where a clause is the
model's own choice it names the log entry. -/

open Sys2Proof Sys2Proof.Machine

/-! Encoding and decoding. -/

/-- A few instructions' bytes, one for each of the seven formats of R104 and one for each family, written out from the
opcode map of R106, decode to the instruction they stand for. -/
def Obligations.DecodeReadsSpecBytes : Prop :=
  decode [0x1B#8] = .ok (.aba, []) ∧
  decode [0x86#8, 0x80#8] = .ok (.ldaaImm 0x80#8, []) ∧
  decode [0xCE#8, 0x12#8, 0x34#8] = .ok (.ldxImm 0x1234#16, []) ∧
  decode [0x97#8, 0x10#8] = .ok (.staaDir 0x10#8, []) ∧
  decode [0x6C#8, 0xFF#8] = .ok (.incIdx 0xFF#8, []) ∧
  decode [0x7F#8, 0x20#8, 0x01#8] = .ok (.clrExt 0x2001#16, []) ∧
  decode [0x2D#8, 0xFE#8] = .ok (.blt 0xFE#8, []) ∧
  decode [0x8D#8, 0x10#8, 0x3E#8] = .ok (.bsr 0x10#8, [0x3E#8]) ∧
  decode [0x85#8, 0xC0#8] = .ok (.bitaImm 0xC0#8, []) ∧
  decode [0x79#8, 0x12#8, 0x34#8] = .ok (.rolExt 0x1234#16, []) ∧
  decode [0x36#8] = .ok (.psha, []) ∧
  decode [0x0E#8] = .ok (.cli, []) ∧
  decode [0x3F#8] = .ok (.swi, [])

/-- Decoding the bytes of an instruction gives the instruction back and the bytes after it, with every operand at every
value (R104, R105, R106; every instruction is well formed, R110). -/
def Obligations.DecodeInvertsEncode : Prop :=
  ∀ (i : Instr) (rest : List Byte), i.wf = true → decode (encode i ++ rest) = .ok (i, rest)

/-- Each byte sequence has one meaning: what decodes to an instruction is that instruction's encoding (R101, R104). -/
def Obligations.EncodeInvertsDecode : Prop :=
  ∀ (bytes rest : List Byte) (i : Instr), decode bytes = .ok (i, rest) → encode i ++ rest = bytes

/-- The opcode bytes with no table entry are the 59 bytes that R107 lists, and the decoder rejects them by name. -/
def Obligations.IllegalBytesHaveNoEntry : Prop :=
  ∀ op : Byte,
    (optable op = none ↔
      op.toNat ∈ [0x00, 0x02, 0x03, 0x04, 0x05, 0x12, 0x13, 0x14, 0x15, 0x18, 0x1A, 0x1C, 0x1D, 0x1E, 0x1F, 0x21, 0x38, 0x3A,
        0x3C, 0x3D, 0x41, 0x42, 0x45, 0x4B, 0x4E, 0x51, 0x52, 0x55, 0x5B, 0x5E, 0x61, 0x62, 0x65, 0x6B, 0x71, 0x72, 0x75,
        0x7B, 0x83, 0x87, 0x8F, 0x93, 0x9D, 0xA3, 0xB3, 0xC3, 0xC7, 0xCC, 0xCD, 0xCF, 0xD3, 0xDC, 0xDD, 0xE3, 0xEC, 0xED,
        0xF3, 0xFC, 0xFD]) ∧
    ∀ rest, optable op = none → decode (op :: rest) = .error (.noEntry op)

/-! Memory. -/

/-- The routed byte read and the routed byte write, case by case of the address's segment (R63, R64), and what a handler
call leaves behind (R66): the handlers' new hidden state, the bytes it writes to `mem` in their order, and its map and handler
table where they are a legal configuration. The model's choices: a handler is a free function of the address, the byte, the
handlers' state and the memory side (log 7), an illegal map is refused and the old one stays (log 8), the handler table changes
with the map (log 9). -/
def Obligations.RoutedByteAccess : Prop :=
  (∀ (b : Bus) (a : Word) (v : Byte),
    (resolve b.map a = none → b.read a = (0x00#8, b) ∧ b.write a v = b) ∧
    (resolve b.map a = some .ram → b.read a = (b.mem.read a, b) ∧ b.write a v = { b with mem := b.mem.write a v }) ∧
    (resolve b.map a = some .rom → b.read a = (b.mem.read a, b) ∧ b.write a v = b) ∧
    (∀ h, resolve b.map a = some (.device h) →
      b.read a =
        ((Config.deviceRead h a b.dev b.map b.handlers b.mem).1,
          b.absorb (Config.deviceRead h a b.dev b.map b.handlers b.mem).2) ∧
      b.write a v = b.absorb (Config.deviceWrite h a v b.dev b.map b.handlers b.mem))) ∧
  (∀ (b : Bus) (e : DeviceEffect),
    (b.absorb e).dev = e.dev ∧
    (MemMap.wf e.map e.handlers = true → (b.absorb e).map = e.map ∧ (b.absorb e).handlers = e.handlers) ∧
    (MemMap.wf e.map e.handlers = false → (b.absorb e).map = b.map ∧ (b.absorb e).handlers = b.handlers) ∧
    (b.absorb { e with writes := [] }).mem = b.mem ∧
    (∀ (ws : List (Word × Byte)) (a : Word) (v : Byte),
      let before := (b.absorb { e with writes := ws }).mem;
      let all := (b.absorb { e with writes := ws ++ [(a, v)] }).mem;
      all = before.write a v ∧ ∀ c, all.read c = if c = a then v else before.read c))

/-- A read returns the latest write that `mem` accepted, and a plain write leaves what every other plain address reads alone
(R63, R64, R80). -/
def Obligations.ReadAfterRoutedWrite : Prop :=
  ∀ (b : Bus) (a c : Word) (v : Byte),
    (resolve b.map a = some .ram → ((b.write a v).read a).1 = v) ∧
    (b.plain a = true → b.plain c = true → c ≠ a → ((b.write a v).read c).1 = (b.read c).1) ∧
    (resolve b.map a = some .rom → ((b.write a v).read a).1 = (b.read a).1)

/-- In a legal map first match is the only match: an address resolves to a kind exactly when some segment of that kind
contains it, and all segments that contain it are one segment (R61). -/
def Obligations.ResolveIsTheOnlyMatch : Prop :=
  ∀ (map : MemMap) (handlers : List HandlerId) (a : Word), MemMap.wf map handlers = true →
    (∀ k, resolve map a = some k ↔ ∃ g ∈ map, g.contains a = true ∧ g.kind = k) ∧
    (∀ g ∈ map, ∀ k ∈ map, g.contains a = true → k.contains a = true → g = k)

/-- A word access is two routed byte accesses, the byte at `a` first and the byte at `a + 1` modulo 65536 second, the high
byte at `a` (R68, R69); a word written where both bytes are RAM reads back, as a word and byte by byte (R70). -/
def Obligations.WordAccess : Prop :=
  ∀ (s : State) (a w : Word),
    readWord a s = ((s.bus.readBig a).1, { s with bus := (s.bus.readBig a).2 }) ∧
    writeWord a w s = { s with bus := s.bus.writeBig a w } ∧
    (a + 1#16).toNat = (a.toNat + 1) % 65536 ∧
    (s.ramAt a = true → s.ramAt (a + 1#16) = true →
      ((s.bus.writeBig a w).readBig a).1 = w ∧
      ((s.bus.writeBig a w).read a).1.toNat = w.toNat / 256 ∧
      ((s.bus.writeBig a w).read (a + 1#16)).1.toNat = w.toNat % 256)

/-- The effective addresses: direct is below 256, extended is the operand word, indexed is `X` plus the unsigned offset
modulo 65536 (R143, R144, R145). -/
def Obligations.EffectiveAddresses : Prop :=
  ∀ (s : State) (d o : Byte) (w : Word),
    (ea (.dir d) s).toNat = d.toNat ∧
    (ea (.dir d) s + 1#16).toNat = d.toNat + 1 ∧
    ea (.ext w) s = w ∧
    (ea (.idx o) s).toNat = (s.x.toNat + o.toNat) % 65536

/-- `MEMMAP` and `HANDLERS` are accepted exactly when every segment ends by 65536, no address lies in two segments, and every
Device segment has a registered handler; a refused configuration is the misconfiguration failure and nothing else (R87). -/
def Obligations.MisconfigurationIsRejected : Prop :=
  ∀ (map : MemMap) (handlers : List HandlerId) (s : State),
    (configure map handlers s = .next { s with bus := { s.bus with map := map, handlers := handlers } } ↔
      (∀ g ∈ map, g.base.toNat + g.length ≤ 65536) ∧
      map.Pairwise (fun g k => ∀ a : Word, ¬(g.contains a = true ∧ k.contains a = true)) ∧
      (∀ g ∈ map, ∀ h, g.kind = .device h → h ∈ handlers)) ∧
    ((∃ why, configure map handlers s = .fault (.misconfiguration why)) ↔ MemMap.wf map handlers = false)

/-! The run loop. -/

/-- A turn that takes no interrupt runs the instruction whose bytes the routed reads from `pc` on give, one after another,
whatever segment each lies in (R130 to R132, R74): it is `exec` of it with `pc` past the instruction and the memory side as the
reads leave it (R31, R133, R135). Where the bytes stand in RAM or ROM the reads leave it as it was. -/
def Obligations.StepRunsTheDecodedInstruction : Prop :=
  ∀ (i : Instr) (s : State), i.wf = true → ended s = false → serviceable s = false →
    let r := s.bus.fetched s.pc (encode i).length;
    (r.1 = encode i →
      step s = exec i { s with pc := s.pc + BitVec.ofNat 16 (encode i).length, loop := .top, bus := r.2 }) ∧
    (s.storesAt s.pc (encode i) →
      r = (encode i, s.bus) ∧
      step s = exec i { s with pc := s.pc + BitVec.ofNat 16 (encode i).length, loop := .top })

/-- A turn that finds a serviceable interrupt enters it and then runs the handler's first instruction in the same turn,
with no budget test between: the boundary of R361, R368 and R133. The handler's bytes are what the routed reads from the new `pc`
on give, whatever segment each lies in (R132, R74). -/
def Obligations.ServicedStepRunsTheHandler : Prop :=
  ∀ (i : Instr) (s : State), i.wf = true → ended s = false → serviceable s = true →
    let t := arbitrate (ackCost s.loop) { s with loop := .top };
    let r := t.bus.fetched t.pc (encode i).length;
    (r.1 = encode i →
      step s = exec i { t with pc := t.pc + BitVec.ofNat 16 (encode i).length, bus := r.2 }) ∧
    (t.storesAt t.pc (encode i) →
      r = (encode i, t.bus) ∧ step s = exec i { t with pc := t.pc + BitVec.ofNat 16 (encode i).length })

/-- An opcode byte with no entry ends the host's step, whether or not the turn has serviced an interrupt first (R133, R137,
R368): from the state the arbiter leaves, `pc` is one past the byte, the budget is 0, the stop reason is set, and nothing else
changes but what a device read of that byte does. The arbiter leaves the state alone where nothing is serviceable; every byte
with an entry is followed by operand bytes, so that it begins an instruction; an unmapped address holds no entry (R132). -/
def Obligations.IllegalOpcodeHaltsTheStep : Prop :=
  ∀ s : State, ended s = false →
    let t := arbitrate (ackCost s.loop) { s with loop := .top };
    (optable (t.bus.read t.pc).1 = none →
      step s = .next
        { t with pc := t.pc + 1#16, budget := 0, stop := .illegalOpcode, bus := (t.bus.read t.pc).2 }) ∧
    (optable (t.bus.read t.pc).1 ≠ none → ∃ i, (t.bus.fetched t.pc (encode i).length).1 = encode i) ∧
    (serviceable s = false → t = { s with loop := .top }) ∧
    (t.bus.plain t.pc = true → (t.bus.read t.pc).2 = t.bus) ∧
    (resolve t.bus.map t.pc = none → optable (t.bus.read t.pc).1 = none)

/-- The block raises no synchronous exception: every turn and every instruction answers a next state, whatever the state
(R369). -/
def Obligations.NothingEverFaults : Prop :=
  (∀ s : State, ∃ t, step s = .next t) ∧ (∀ (i : Instr) (s : State), ∃ t, exec i s = .next t)

/-- The arbiter: NMI before IRQ, NMI whatever the mask, IRQ only with the mask clear, at most one, its pending bit
cleared, otherwise nothing (R361 to R365). -/
def Obligations.ArbiterPriority : Prop :=
  ∀ (s : State) (ack : Nat),
    (s.pend.nmi = true →
      arbitrate ack s = { s.entered 0xFFFC#16 ack with pend := { nmi := false, irq := s.pend.irq } }) ∧
    (s.pend.nmi = false → s.pend.irq = true → s.cc.i = false →
      arbitrate ack s = { s.entered 0xFFF8#16 ack with pend := { nmi := false, irq := false } }) ∧
    (s.pend.nmi = false → (s.pend.irq = false ∨ s.cc.i = true) → arbitrate ack s = s)

/-- The frame of an interrupt entry over RAM: the seven bytes at the seven addresses of R366, every other byte unchanged,
`SP` down by seven, the other registers and flags kept, `I` set, the cost charged (R366). -/
def Obligations.EntryBuildsTheFrame : Prop :=
  ∀ (s : State) (vector : Word) (cost : Nat),
    (frameAddrs s.sp).all s.ramAt = true → s.plainAt [vector, vector + 1#16] = true →
    let t := enterInterrupt vector cost s;
    t.bus.mem.read s.sp = lowByte s.pc ∧
    t.bus.mem.read (s.sp - 1#16) = highByte s.pc ∧
    t.bus.mem.read (s.sp - 2#16) = lowByte s.x ∧
    t.bus.mem.read (s.sp - 3#16) = highByte s.x ∧
    t.bus.mem.read (s.sp - 4#16) = s.a ∧
    t.bus.mem.read (s.sp - 5#16) = s.b ∧
    t.bus.mem.read (s.sp - 6#16) = s.cc.image ∧
    (∀ a : Word, a ∉ frameAddrs s.sp → t.bus.mem.read a = s.bus.mem.read a) ∧
    t = { s with
      sp := s.sp - 7#16, cc := { s.cc with i := true }, budget := s.budget - cost,
      pc := (t.bus.read vector).1 ++ (t.bus.read (vector + 1#16)).1,
      bus := { s.bus with mem := Memory.pushed s.bus.mem s.sp (frameBytes s) } }

/-! Loads, stores, transfers, stack. -/

/-- LDAA and LDAB (R204): the operand replaces the accumulator; `N`, `Z` from it, `V` cleared. -/
def Obligations.LoadAccumulator : Prop :=
  ∀ (r : Acc) (src : Src8) (s : State),
    encode (Form.lda r src) = srcBytes (byAcc r 0x86#8 0xC6#8) (byAcc r 0x96#8 0xD6#8) (byAcc r 0xA6#8 0xE6#8)
      (byAcc r 0xB6#8 0xF6#8) src ∧
    exec (Form.lda r src) s = .next
      { s.withAcc r (sourceByte src s).1 with
        cc := { s.cc with n := (sourceByte src s).1.msb, z := (sourceByte src s).1 == 0#8, v := false }
        budget := s.budget - srcCost src
        bus := (sourceByte src s).2 }

/-- STAA and STAB (R205): one routed write of the accumulator at the effective address, no read; flags from the stored
value even where the write is dropped. -/
def Obligations.StoreAccumulator : Prop :=
  ∀ (r : Acc) (m : MemMode) (s : State),
    encode (Form.sta r m) = memBytes (byAcc r 0x97#8 0xD7#8) (byAcc r 0xA7#8 0xE7#8) (byAcc r 0xB7#8 0xF7#8) m ∧
    exec (Form.sta r m) s = .next
      { s with
        cc := { s.cc with n := (byAcc r s.a s.b).msb, z := byAcc r s.a s.b == 0#8, v := false }
        budget := s.budget - storeCost m
        bus := s.bus.write (ea m s) (byAcc r s.a s.b) }

/-- LDX and LDS (R206, R207): the word operand replaces `X` or `SP`, its indexed address computed from the old `X`; `N` is
bit 15, `Z` of all 16 bits, `V` cleared. -/
def Obligations.LoadIndexAndStackPointer : Prop :=
  ∀ (src : Src16) (s : State),
    encode (Form.ldx src) = src16Bytes 0xCE#8 0xDE#8 0xEE#8 0xFE#8 src ∧
    encode (Form.lds src) = src16Bytes 0x8E#8 0x9E#8 0xAE#8 0xBE#8 src ∧
    exec (Form.ldx src) s = .next
      { s with
        x := (sourceWord src s).1
        cc := { s.cc with n := (sourceWord src s).1.msb, z := (sourceWord src s).1 == 0#16, v := false }
        budget := s.budget - src16Cost src
        bus := (sourceWord src s).2 } ∧
    exec (Form.lds src) s = .next
      { s with
        sp := (sourceWord src s).1
        cc := { s.cc with n := (sourceWord src s).1.msb, z := (sourceWord src s).1 == 0#16, v := false }
        budget := s.budget - src16Cost src
        bus := (sourceWord src s).2 }

/-- STX and STS (R208, R209): two routed writes, high byte first, no read; flags from the stored word. -/
def Obligations.StoreIndexAndStackPointer : Prop :=
  ∀ (m : MemMode) (s : State),
    encode (Form.stx m) = memBytes 0xDF#8 0xEF#8 0xFF#8 m ∧
    encode (Form.sts m) = memBytes 0x9F#8 0xAF#8 0xBF#8 m ∧
    exec (Form.stx m) s = .next
      { s with
        cc := { s.cc with n := s.x.msb, z := s.x == 0#16, v := false }
        budget := s.budget - store16Cost m
        bus := s.bus.writeBig (ea m s) s.x } ∧
    exec (Form.sts m) s = .next
      { s with
        cc := { s.cc with n := s.sp.msb, z := s.sp == 0#16, v := false }
        budget := s.budget - store16Cost m
        bus := s.bus.writeBig (ea m s) s.sp }

/-- TAB and TBA (R210, R211): one accumulator copied to the other; `N`, `Z` from the byte, `V` cleared. -/
def Obligations.TransferAccumulators : Prop :=
  ∀ s : State,
    encode .tab = [0x16#8] ∧ encode .tba = [0x17#8] ∧
    exec .tab s = .next
      { s with b := s.a, cc := { s.cc with n := s.a.msb, z := s.a == 0#8, v := false }, budget := s.budget - 2 } ∧
    exec .tba s = .next
      { s with a := s.b, cc := { s.cc with n := s.b.msb, z := s.b == 0#8, v := false }, budget := s.budget - 2 }

/-- TAP and TPA (R212, R213): bits 5 to 0 of `A` become the six flags and bits 7 and 6 are ignored; the flags become `A`
as the image `1 1 H I N Z V C`. -/
def Obligations.TransferFlags : Prop :=
  ∀ s : State,
    encode .tap = [0x06#8] ∧ encode .tpa = [0x07#8] ∧
    exec .tap s = .next
      { s with
        cc := { h := s.a.getLsbD 5, i := s.a.getLsbD 4, n := s.a.getLsbD 3, z := s.a.getLsbD 2, v := s.a.getLsbD 1,
                c := s.a.getLsbD 0 }
        budget := s.budget - 2 } ∧
    exec .tpa s = .next
      { s with
        a := BitVec.ofNat 8 (128 + 64 + 32 * s.cc.h.toNat + 16 * s.cc.i.toNat + 8 * s.cc.n.toNat + 4 * s.cc.z.toNat +
          2 * s.cc.v.toNat + s.cc.c.toNat)
        budget := s.budget - 2 }

/-- TSX, TXS, INS and DES (R214, R215, R256, R257): 16-bit counting modulo 65536, no flag written. -/
def Obligations.StackPointerTransfers : Prop :=
  ∀ s : State,
    encode .tsx = [0x30#8] ∧ encode .txs = [0x35#8] ∧ encode .ins = [0x31#8] ∧ encode .des = [0x34#8] ∧
    exec .tsx s = .next { s with x := BitVec.ofNat 16 (s.sp.toNat + 1), budget := s.budget - 4 } ∧
    exec .txs s = .next { s with sp := BitVec.ofNat 16 (s.x.toNat + 65535), budget := s.budget - 4 } ∧
    exec .ins s = .next { s with sp := BitVec.ofNat 16 (s.sp.toNat + 1), budget := s.budget - 4 } ∧
    exec .des s = .next { s with sp := BitVec.ofNat 16 (s.sp.toNat + 65535), budget := s.budget - 4 }

/-- PSHA, PSHB, PULA and PULB (R216, R217): a push writes at `SP` and then moves it down, a pull moves it up and then reads;
no flag is written. -/
def Obligations.PushAndPullAccumulator : Prop :=
  ∀ (r : Acc) (s : State),
    encode (Form.psh r) = [byAcc r 0x36#8 0x37#8] ∧ encode (Form.pul r) = [byAcc r 0x32#8 0x33#8] ∧
    exec (Form.psh r) s = .next
      { s with sp := s.sp - 1#16, budget := s.budget - 4, bus := s.bus.write s.sp (byAcc r s.a s.b) } ∧
    exec (Form.pul r) s = .next
      { s.withAcc r (s.bus.read (s.sp + 1#16)).1 with
        sp := s.sp + 1#16, budget := s.budget - 4, bus := (s.bus.read (s.sp + 1#16)).2 }

/-- CLRA, CLRB and CLR (R218): the register becomes 0, or memory gets one routed write of 0 and no read; `N`, `V`, `C` are
cleared and `Z` is set. -/
def Obligations.ClearWithoutReading : Prop :=
  ∀ (t : Target) (s : State),
    encode (Form.clr t) = targetBytes 0x4F#8 0x5F#8 0x6F#8 0x7F#8 t ∧
    exec (Form.clr t) s = .next
      (match t with
        | .acc r =>
          { s.withAcc r 0x00#8 with
            cc := { s.cc with n := false, z := true, v := false, c := false }, budget := s.budget - 2 }
        | .mem m =>
          { s with
            cc := { s.cc with n := false, z := true, v := false, c := false }
            budget := s.budget - targetCost t
            bus := s.bus.write (ea m.mode s) 0x00#8 })

/-! Arithmetic. -/

/-! Arithmetic. -/

/-- ADDA, ADDB, ADCA, ADCB and ABA (R240, R241, R242): the sum modulo 256, with `H`, `N`, `Z`, `V`, `C` of the true sum. -/
def Obligations.AddInstructions : Prop :=
  ∀ (r : Acc) (src : Src8) (s : State),
    encode (Form.add r src) = srcBytes (byAcc r 0x8B#8 0xCB#8) (byAcc r 0x9B#8 0xDB#8) (byAcc r 0xAB#8 0xEB#8)
      (byAcc r 0xBB#8 0xFB#8) src ∧
    encode (Form.adc r src) = srcBytes (byAcc r 0x89#8 0xC9#8) (byAcc r 0x99#8 0xD9#8) (byAcc r 0xA9#8 0xE9#8)
      (byAcc r 0xB9#8 0xF9#8) src ∧
    encode .aba = [0x1B#8] ∧
    (let o := sumFlags s.cc (byAcc r s.a s.b) (sourceByte src s).1 false;
      exec (Form.add r src) s = .next
        { s.withAcc r o.1 with cc := o.2, budget := s.budget - srcCost src, bus := (sourceByte src s).2 }) ∧
    (let o := sumFlags s.cc (byAcc r s.a s.b) (sourceByte src s).1 s.cc.c;
      exec (Form.adc r src) s = .next
        { s.withAcc r o.1 with cc := o.2, budget := s.budget - srcCost src, bus := (sourceByte src s).2 }) ∧
    (let o := sumFlags s.cc s.a s.b false;
      exec .aba s = .next { s with a := o.1, cc := o.2, budget := s.budget - 2 })

/-- SUBA, SUBB, SBCA, SBCB and SBA (R243, R244, R245): the difference modulo 256, with `N`, `Z`, `V` and the borrow in `C`;
`H` and `I` unchanged. -/
def Obligations.SubtractInstructions : Prop :=
  ∀ (r : Acc) (src : Src8) (s : State),
    encode (Form.sub r src) = srcBytes (byAcc r 0x80#8 0xC0#8) (byAcc r 0x90#8 0xD0#8) (byAcc r 0xA0#8 0xE0#8)
      (byAcc r 0xB0#8 0xF0#8) src ∧
    encode (Form.sbc r src) = srcBytes (byAcc r 0x82#8 0xC2#8) (byAcc r 0x92#8 0xD2#8) (byAcc r 0xA2#8 0xE2#8)
      (byAcc r 0xB2#8 0xF2#8) src ∧
    encode .sba = [0x10#8] ∧
    (let o := differenceFlags s.cc (byAcc r s.a s.b) (sourceByte src s).1 false;
      exec (Form.sub r src) s = .next
        { s.withAcc r o.1 with cc := o.2, budget := s.budget - srcCost src, bus := (sourceByte src s).2 }) ∧
    (let o := differenceFlags s.cc (byAcc r s.a s.b) (sourceByte src s).1 s.cc.c;
      exec (Form.sbc r src) s = .next
        { s.withAcc r o.1 with cc := o.2, budget := s.budget - srcCost src, bus := (sourceByte src s).2 }) ∧
    (let o := differenceFlags s.cc s.a s.b false;
      exec .sba s = .next { s with a := o.1, cc := o.2, budget := s.budget - 2 })

/-- CMPA, CMPB and CBA (R246, R247): the flags of the difference, with no register written. -/
def Obligations.CompareInstructions : Prop :=
  ∀ (r : Acc) (src : Src8) (s : State),
    encode (Form.cmp r src) = srcBytes (byAcc r 0x81#8 0xC1#8) (byAcc r 0x91#8 0xD1#8) (byAcc r 0xA1#8 0xE1#8)
      (byAcc r 0xB1#8 0xF1#8) src ∧
    encode .cba = [0x11#8] ∧
    exec (Form.cmp r src) s = .next
      { s with
        cc := (differenceFlags s.cc (byAcc r s.a s.b) (sourceByte src s).1 false).2
        budget := s.budget - srcCost src
        bus := (sourceByte src s).2 } ∧
    exec .cba s = .next { s with cc := (differenceFlags s.cc s.a s.b false).2, budget := s.budget - 2 }

/-- NEG and COM on an accumulator or memory (R248, R284): two's complement with `C = (v != 0)` and `V = (v == 0x80)`, one's
complement with `V` cleared and `C` set; memory is read once and then written once. -/
def Obligations.NegateAndComplement : Prop :=
  ∀ (t : Target) (s : State),
    encode (Form.neg t) = targetBytes 0x40#8 0x50#8 0x60#8 0x70#8 t ∧
    encode (Form.com t) = targetBytes 0x43#8 0x53#8 0x63#8 0x73#8 t ∧
    (let v := (targetByte t s).1;
      let r := BitVec.ofNat 8 (256 - v.toNat);
      exec (Form.neg t) s = .next
        { s.modified t r with
          cc := { s.cc with n := r.msb, z := r == 0#8, v := v == 0x80#8, c := v != 0x00#8 }
          budget := s.budget - targetCost t }) ∧
    (let r := BitVec.ofNat 8 (255 - (targetByte t s).1.toNat);
      exec (Form.com t) s = .next
        { s.modified t r with
          cc := { s.cc with n := r.msb, z := r == 0#8, v := false, c := true }, budget := s.budget - targetCost t })

/-- INC and DEC on an accumulator or memory (R249, R250): one more or one less modulo 256, `V` at the signed end, `C`
unchanged. -/
def Obligations.IncrementAndDecrement : Prop :=
  ∀ (t : Target) (s : State),
    encode (Form.inc t) = targetBytes 0x4C#8 0x5C#8 0x6C#8 0x7C#8 t ∧
    encode (Form.dec t) = targetBytes 0x4A#8 0x5A#8 0x6A#8 0x7A#8 t ∧
    (let v := (targetByte t s).1;
      let r := BitVec.ofNat 8 (v.toNat + 1);
      exec (Form.inc t) s = .next
        { s.modified t r with
          cc := { s.cc with n := r.msb, z := r == 0#8, v := v == 0x7F#8 }, budget := s.budget - targetCost t }) ∧
    (let v := (targetByte t s).1;
      let r := BitVec.ofNat 8 (v.toNat + 255);
      exec (Form.dec t) s = .next
        { s.modified t r with
          cc := { s.cc with n := r.msb, z := r == 0#8, v := v == 0x80#8 }, budget := s.budget - targetCost t })

/-- TST on an accumulator or memory (R252): `N`, `Z` from the byte, `V` and `C` cleared, nothing written. -/
def Obligations.TestWritesNothing : Prop :=
  ∀ (t : Target) (s : State),
    encode (Form.tst t) = targetBytes 0x4D#8 0x5D#8 0x6D#8 0x7D#8 t ∧
    exec (Form.tst t) s = .next
      { s with
        cc := { s.cc with n := (targetByte t s).1.msb, z := (targetByte t s).1 == 0#8, v := false, c := false }
        budget := s.budget - targetCost t
        bus := (targetByte t s).2 }

/-- DAA (R251 with the algorithm of R177): the correction driven by the nibbles, `C` and `H`; `C` is set and never cleared.
`V` cleared is the spec's decision D16 (log 12). -/
def Obligations.DecimalAdjust : Prop :=
  ∀ s : State,
    encode .daa = [0x19#8] ∧
    (let hi := s.a.toNat / 16;
      let lo := s.a.toNat % 16;
      let t := s.a.toNat + (if 9 < lo ∨ s.cc.h = true then 6 else 0) +
        (if (8 < hi ∧ 9 < lo) ∨ 9 < hi ∨ s.cc.c = true then 96 else 0);
      exec .daa s = .next
        { s with
          a := BitVec.ofNat 8 t
          cc := { s.cc with
            n := decide (128 ≤ t % 256), z := decide (t % 256 = 0), v := false, c := s.cc.c || decide (255 < t) }
          budget := s.budget - 2 })

/-- ADC of two packed-BCD bytes and then DAA gives their decimal sum with the carry in, its hundreds digit in `C` (R177's
purpose, R241, R251). -/
def Obligations.DecimalAdditionIsCorrect : Prop :=
  ∀ (r : Byte) (s : State), isBcd s.a = true → isBcd r = true →
    ∃ t u : State, exec (.adcaImm r) s = .next t ∧ exec .daa t = .next u ∧ isBcd u.a = true ∧
      bcdValue u.a + 100 * u.cc.c.toNat = bcdValue s.a + bcdValue r + s.cc.c.toNat

/-- CPX (R253): the flags of the 16-bit difference, `C` unchanged, no register written. That `N` and `V` are of the full 16
bits is the spec's decision D17 (log 13). -/
def Obligations.CompareIndex : Prop :=
  ∀ (src : Src16) (s : State),
    encode (Form.cpx src) = src16Bytes 0x8C#8 0x9C#8 0xAC#8 0xBC#8 src ∧
    (let w := (sourceWord src s).1;
      exec (Form.cpx src) s = .next
        { s with
          cc := { s.cc with
            n := (s.x - w).msb
            z := decide (s.x = w)
            v := decide (s.x.toInt - w.toInt < -32768 ∨ 32767 < s.x.toInt - w.toInt) }
          budget := s.budget - src16Cost src
          bus := (sourceWord src s).2 })

/-- INX and DEX (R254, R255): 16-bit counting modulo 65536; only `Z` is written, from all 16 bits. -/
def Obligations.CountIndex : Prop :=
  ∀ s : State,
    encode .inx = [0x08#8] ∧ encode .dex = [0x09#8] ∧
    (let x := BitVec.ofNat 16 (s.x.toNat + 1);
      exec .inx s = .next { s with x := x, cc := { s.cc with z := x == 0#16 }, budget := s.budget - 4 }) ∧
    (let x := BitVec.ofNat 16 (s.x.toNat + 65535);
      exec .dex s = .next { s with x := x, cc := { s.cc with z := x == 0#16 }, budget := s.budget - 4 })

/-! Logic and shifts. -/

/-- AND, ORA, EOR and BIT on either accumulator (R280 to R283): the bitwise result, or for BIT no register; `N`, `Z` from
the result, `V` cleared, `H`, `I`, `C` unchanged. -/
def Obligations.LogicalInstructions : Prop :=
  ∀ (r : Acc) (src : Src8) (s : State),
    encode (Form.and r src) = srcBytes (byAcc r 0x84#8 0xC4#8) (byAcc r 0x94#8 0xD4#8) (byAcc r 0xA4#8 0xE4#8)
      (byAcc r 0xB4#8 0xF4#8) src ∧
    encode (Form.ora r src) = srcBytes (byAcc r 0x8A#8 0xCA#8) (byAcc r 0x9A#8 0xDA#8) (byAcc r 0xAA#8 0xEA#8)
      (byAcc r 0xBA#8 0xFA#8) src ∧
    encode (Form.eor r src) = srcBytes (byAcc r 0x88#8 0xC8#8) (byAcc r 0x98#8 0xD8#8) (byAcc r 0xA8#8 0xE8#8)
      (byAcc r 0xB8#8 0xF8#8) src ∧
    encode (Form.bit r src) = srcBytes (byAcc r 0x85#8 0xC5#8) (byAcc r 0x95#8 0xD5#8) (byAcc r 0xA5#8 0xE5#8)
      (byAcc r 0xB5#8 0xF5#8) src ∧
    (let m := (sourceByte src s).1;
      let x := byAcc r s.a s.b;
      let after := fun v : Byte =>
        { s with
          cc := { s.cc with n := v.msb, z := v == 0#8, v := false }
          budget := s.budget - srcCost src
          bus := (sourceByte src s).2 };
      exec (Form.and r src) s = .next ((after (x &&& m)).withAcc r (x &&& m)) ∧
      exec (Form.ora r src) s = .next ((after (x ||| m)).withAcc r (x ||| m)) ∧
      exec (Form.eor r src) s = .next ((after (x ^^^ m)).withAcc r (x ^^^ m)) ∧
      exec (Form.bit r src) s = .next (after (x &&& m)))

/-- ASL, ASR and LSR on an accumulator or memory (R285, R286, R287): the byte doubled modulo 256, halved keeping bit 7, or
halved; `C` the bit shifted out and `V = N xor C`. -/
def Obligations.ShiftInstructions : Prop :=
  ∀ (t : Target) (s : State),
    encode (Form.asl t) = targetBytes 0x48#8 0x58#8 0x68#8 0x78#8 t ∧
    encode (Form.asr t) = targetBytes 0x47#8 0x57#8 0x67#8 0x77#8 t ∧
    encode (Form.lsr t) = targetBytes 0x44#8 0x54#8 0x64#8 0x74#8 t ∧
    (let v := (targetByte t s).1.toNat;
      let after := fun (r : Byte) (out : Bool) =>
        { s.modified t r with cc := shiftFlags s.cc r out, budget := s.budget - targetCost t };
      exec (Form.asl t) s = .next (after (BitVec.ofNat 8 (2 * v)) (decide (128 ≤ v))) ∧
      exec (Form.asr t) s = .next (after (BitVec.ofNat 8 (v / 2 + 128 * (v / 128))) (decide (v % 2 = 1))) ∧
      exec (Form.lsr t) s = .next (after (BitVec.ofNat 8 (v / 2)) (decide (v % 2 = 1))))

/-- ROL and ROR on an accumulator or memory (R288, R289): a rotation of the nine bits of `C` and the byte; nine ROLs restore
the byte and `C`. -/
def Obligations.RotateInstructions : Prop :=
  (∀ (t : Target) (s : State),
    encode (Form.rol t) = targetBytes 0x49#8 0x59#8 0x69#8 0x79#8 t ∧
    encode (Form.ror t) = targetBytes 0x46#8 0x56#8 0x66#8 0x76#8 t ∧
    (let v := (targetByte t s).1.toNat;
      let after := fun (r : Byte) (out : Bool) =>
        { s.modified t r with cc := shiftFlags s.cc r out, budget := s.budget - targetCost t };
      exec (Form.rol t) s = .next (after (BitVec.ofNat 8 (2 * v + s.cc.c.toNat)) (decide (128 ≤ v))) ∧
      exec (Form.ror t) s = .next (after (BitVec.ofNat 8 (v / 2 + 128 * s.cc.c.toNat)) (decide (v % 2 = 1))))) ∧
  (∀ (v : Byte) (f : Flags),
    let nine := (fun q : Byte × Flags => unaryRol q.1 q.2)^[9] (v, f);
    nine.1 = v ∧ nine.2.c = f.c)

/-! Control flow. -/

/-- BRA, BHI, BLS, BCC, BCS, BNE, BEQ (R311 to R317): each taken exactly on its condition, to the signed offset from the
next instruction; no flag and no memory touched. -/
def Obligations.UnsignedBranches : Prop :=
  ∀ (rel8 : Byte) (s : State),
    [encode (.bra rel8), encode (.bhi rel8), encode (.bls rel8), encode (.bcc rel8), encode (.bcs rel8), encode (.bne rel8),
      encode (.beq rel8)] =
      [[0x20#8, rel8], [0x22#8, rel8], [0x23#8, rel8], [0x24#8, rel8], [0x25#8, rel8], [0x26#8, rel8], [0x27#8, rel8]] ∧
    exec (.bra rel8) s = .next (s.branched true rel8) ∧
    exec (.bhi rel8) s = .next (s.branched (!(s.cc.c || s.cc.z)) rel8) ∧
    exec (.bls rel8) s = .next (s.branched (s.cc.c || s.cc.z) rel8) ∧
    exec (.bcc rel8) s = .next (s.branched (!s.cc.c) rel8) ∧
    exec (.bcs rel8) s = .next (s.branched s.cc.c rel8) ∧
    exec (.bne rel8) s = .next (s.branched (!s.cc.z) rel8) ∧
    exec (.beq rel8) s = .next (s.branched s.cc.z rel8)

/-- BVC, BVS, BPL, BMI, BGE, BLT, BGT, BLE (R318 to R325): each taken exactly on its condition. -/
def Obligations.SignedBranches : Prop :=
  ∀ (rel8 : Byte) (s : State),
    [encode (.bvc rel8), encode (.bvs rel8), encode (.bpl rel8), encode (.bmi rel8), encode (.bge rel8), encode (.blt rel8),
      encode (.bgt rel8), encode (.ble rel8)] =
      [[0x28#8, rel8], [0x29#8, rel8], [0x2A#8, rel8], [0x2B#8, rel8], [0x2C#8, rel8], [0x2D#8, rel8], [0x2E#8, rel8],
        [0x2F#8, rel8]] ∧
    exec (.bvc rel8) s = .next (s.branched (!s.cc.v) rel8) ∧
    exec (.bvs rel8) s = .next (s.branched s.cc.v rel8) ∧
    exec (.bpl rel8) s = .next (s.branched (!s.cc.n) rel8) ∧
    exec (.bmi rel8) s = .next (s.branched s.cc.n rel8) ∧
    exec (.bge rel8) s = .next (s.branched (s.cc.n == s.cc.v) rel8) ∧
    exec (.blt rel8) s = .next (s.branched (s.cc.n != s.cc.v) rel8) ∧
    exec (.bgt rel8) s = .next (s.branched (!(s.cc.z || (s.cc.n != s.cc.v))) rel8) ∧
    exec (.ble rel8) s = .next (s.branched (s.cc.z || (s.cc.n != s.cc.v)) rel8)

/-- After `CMPA #m` the branches follow the order of `A` and `m`: BHI, BLS, BCC, BCS the unsigned order, BGE, BLT, BGT, BLE
the signed order, BEQ and BNE equality (R246 with R312 to R317 and R322 to R325). -/
def Obligations.BranchesAfterCompareFollowTheOrder : Prop :=
  ∀ (m rel8 : Byte) (s : State), ∃ t, exec (.cmpaImm m) s = .next t ∧
    exec (.bhi rel8) t = .next (t.branched (decide (m.toNat < s.a.toNat)) rel8) ∧
    exec (.bls rel8) t = .next (t.branched (decide (s.a.toNat ≤ m.toNat)) rel8) ∧
    exec (.bcc rel8) t = .next (t.branched (decide (m.toNat ≤ s.a.toNat)) rel8) ∧
    exec (.bcs rel8) t = .next (t.branched (decide (s.a.toNat < m.toNat)) rel8) ∧
    exec (.bge rel8) t = .next (t.branched (decide (m.toInt ≤ s.a.toInt)) rel8) ∧
    exec (.blt rel8) t = .next (t.branched (decide (s.a.toInt < m.toInt)) rel8) ∧
    exec (.bgt rel8) t = .next (t.branched (decide (m.toInt < s.a.toInt)) rel8) ∧
    exec (.ble rel8) t = .next (t.branched (decide (s.a.toInt ≤ m.toInt)) rel8) ∧
    exec (.beq rel8) t = .next (t.branched (decide (s.a = m)) rel8) ∧
    exec (.bne rel8) t = .next (t.branched (decide (s.a ≠ m)) rel8)

/-- BSR and JSR (R326, R328): the address of the next instruction is pushed, low byte first, and `pc` goes to the target. -/
def Obligations.CallsPushTheReturnAddress : Prop :=
  ∀ (rel8 : Byte) (m : IdxExt) (s : State),
    encode (.bsr rel8) = [0x8D#8, rel8] ∧ encode (Form.jsr m) = idxExtBytes 0xAD#8 0xBD#8 m ∧
    exec (.bsr rel8) s = .next
      { s with
        pc := branchTarget s.pc rel8, sp := s.sp - 2#16, budget := s.budget - 8
        bus := (s.bus.write s.sp (lowByte s.pc)).write (s.sp - 1#16) (highByte s.pc) } ∧
    exec (Form.jsr m) s = .next
      { s with
        pc := ea m.mode s, sp := s.sp - 2#16, budget := s.budget - (match m with | .idx _ => 8 | .ext _ => 9)
        bus := (s.bus.write s.sp (lowByte s.pc)).write (s.sp - 1#16) (highByte s.pc) }

/-- JMP, RTS and NOP (R327, R329, R330): `pc` becomes the effective address itself; the two bytes above `SP`, high byte
first, become `pc`; nothing. -/
def Obligations.JumpReturnAndNop : Prop :=
  ∀ (m : IdxExt) (s : State),
    encode (Form.jmp m) = idxExtBytes 0x6E#8 0x7E#8 m ∧ encode .rts = [0x39#8] ∧ encode .nop = [0x01#8] ∧
    exec (Form.jmp m) s = .next
      { s with pc := ea m.mode s, budget := s.budget - (match m with | .idx _ => 4 | .ext _ => 3) } ∧
    exec .rts s = .next
      { s with
        pc := (s.bus.readBig (s.sp + 1#16)).1, sp := s.sp + 2#16, budget := s.budget - 5
        bus := (s.bus.readBig (s.sp + 1#16)).2 } ∧
    exec .nop s = .next { s with budget := s.budget - 2 }

/-- A call over a RAM stack and then RTS comes back to the instruction after the call with `SP` as it was and every register
kept (R326, R328, R329). -/
def Obligations.CallThenReturn : Prop :=
  ∀ (m : IdxExt) (rel8 : Byte) (s : State), s.ramAt s.sp = true → s.ramAt (s.sp - 1#16) = true →
    (∃ t u, exec (.bsr rel8) s = .next t ∧ exec .rts t = .next u ∧
      u = { s with bus := t.bus, budget := s.budget - 13 } ∧ t.pc = branchTarget s.pc rel8) ∧
    (∃ t u, exec (Form.jsr m) s = .next t ∧ exec .rts t = .next u ∧
      u = { s with bus := t.bus, budget := t.budget - 5 } ∧ t.pc = ea m.mode s)

/-! System. -/

/-- SWI (R340): the interrupt entry through `0xFFFA`, unconditional, with `pend` untouched and 12 cycles charged. -/
def Obligations.SoftwareInterrupt : Prop :=
  ∀ s : State, encode .swi = [0x3F#8] ∧ exec .swi s = .next (s.entered 0xFFFA#16 12)

/-- RTI (R341): the exact reverse of the entry pushes: flags, `B`, `A`, `X`, `pc`, from seven routed reads at rising
addresses; a pulled `I` of 0 makes a pending IRQ serviceable at the next boundary. -/
def Obligations.ReturnFromInterrupt : Prop :=
  ∀ s : State,
    let r1 := s.bus.read (s.sp + 1#16);
    let r2 := r1.2.read (s.sp + 2#16);
    let r3 := r2.2.read (s.sp + 3#16);
    let r4 := r3.2.readBig (s.sp + 4#16);
    let r5 := r4.2.readBig (s.sp + 6#16);
    encode .rti = [0x3B#8] ∧
    exec .rti s = .next
      { s with
        cc := { h := r1.1.getLsbD 5, i := r1.1.getLsbD 4, n := r1.1.getLsbD 3, z := r1.1.getLsbD 2, v := r1.1.getLsbD 1,
                c := r1.1.getLsbD 0 }
        b := r2.1, a := r3.1, x := r4.1, pc := r5.1, sp := s.sp + 7#16, budget := s.budget - 10, bus := r5.2 } ∧
    (∀ t, exec .rti s = .next t → serviceable t = (s.pend.nmi || (s.pend.irq && !r1.1.getLsbD 4)))

/-- An interrupt entry over a RAM stack and then RTI restores every register, every flag and `SP` (R366, R341, R372). -/
def Obligations.ReturnUndoesEntry : Prop :=
  ∀ (s : State) (vector : Word) (cost : Nat),
    (frameAddrs s.sp).all s.ramAt = true → s.plainAt [vector, vector + 1#16] = true →
    ∃ u, exec .rti (enterInterrupt vector cost s) = .next u ∧
      u = { s with budget := s.budget - cost - 10, bus := (enterInterrupt vector cost s).bus }

/-- WAI (R342): with nothing pending the host's step ends with `pc` back at the opcode, the budget 0 and nothing charged; with
a bit pending 9 cycles are charged and the next turn begins at the arbiter with the cost `ACK_COST_AFTER_WAIT` (that the
point of the run loop is a field of the state is the model's choice, log 6). -/
def Obligations.WaitForInterrupt : Prop :=
  ∀ s : State, encode .wai = [0x3E#8] ∧
    (s.pend = { nmi := false, irq := false } →
      exec .wai s = .next { s with pc := s.pc - 1#16, budget := 0, stop := .wait }) ∧
    (s.pend ≠ { nmi := false, irq := false } →
      exec .wai s = .next { s with budget := s.budget - 9, loop := .afterWait }) ∧
    ackCost .afterWait = 4 ∧ ackCost .top = 12 ∧ ended { s with loop := .afterWait } = false

/-- CLC, SEC, CLV, SEV, CLI, SEI (R343 to R348): one flag written, nothing else; a pending IRQ becomes serviceable right
after CLI and stays masked after SEI. -/
def Obligations.FlagInstructions : Prop :=
  ∀ s : State,
    [encode .clc, encode .sec, encode .clv, encode .sev, encode .cli, encode .sei] =
      [[0x0C#8], [0x0D#8], [0x0A#8], [0x0B#8], [0x0E#8], [0x0F#8]] ∧
    exec .clc s = .next { s with cc := { s.cc with c := false }, budget := s.budget - 2 } ∧
    exec .sec s = .next { s with cc := { s.cc with c := true }, budget := s.budget - 2 } ∧
    exec .clv s = .next { s with cc := { s.cc with v := false }, budget := s.budget - 2 } ∧
    exec .sev s = .next { s with cc := { s.cc with v := true }, budget := s.budget - 2 } ∧
    exec .cli s = .next { s with cc := { s.cc with i := false }, budget := s.budget - 2 } ∧
    exec .sei s = .next { s with cc := { s.cc with i := true }, budget := s.budget - 2 } ∧
    (∀ t, exec .cli s = .next t → serviceable t = (s.pend.nmi || s.pend.irq)) ∧
    (∀ t, exec .sei s = .next t → serviceable t = s.pend.nmi)

/-! The whole machine. -/

/-- Every turn keeps the memory in its canonical form and the map a legal configuration (R87; that an illegal map a handler
offers is rejected is the model's choice, log 8). Every turn keeps the control state in order: a step that has halted stays over
with the budget 0 (R137, R138), a turn after a `WAI` has a masked IRQ pending and so nothing to service (R138), a stop reason once
loaded is never `none` (R45), and the budget the host passed stays as it was (`loop` and `budgetIn` are the model's own fields,
log 6). -/
def Obligations.StepKeepsWellFormed : Prop :=
  ∀ s t : State, step s = .next t →
    (s.wf = true → t.wf = true) ∧
    (s.controlWf = true → t.controlWf = true) ∧
    (s.stop ≠ .none → t.stop ≠ .none) ∧
    t.budgetIn = s.budgetIn

/-- The state after reset has its memory in canonical form and a legal map, its control state in order, the flags that R411
gives, no stop reason, and `pc` the word at the reset vector (the memory and the map are the model's choice, logs 2 and 3). -/
def Obligations.ResetStateIsWellFormed : Prop :=
  State.reset.wf = true ∧
  State.reset.controlWf = true ∧
  State.reset.cc = { h := false, i := true, n := false, z := false, v := false, c := false } ∧
  State.reset.stop = .none ∧
  State.reset.pc = (State.reset.bus.readBig 0xFFFE#16).1

/-- Every instruction leaves alone each flag that R37 does not name for it. -/
def Obligations.FlagWriters : Prop :=
  ∀ (i : Instr) (s t : State), exec i s = .next t →
    (writesH i = false → t.cc.h = s.cc.h) ∧ (writesI i = false → t.cc.i = s.cc.i) ∧
    (writesN i = false → t.cc.n = s.cc.n) ∧ (writesZ i = false → t.cc.z = s.cc.z) ∧
    (writesV i = false → t.cc.v = s.cc.v) ∧ (writesC i = false → t.cc.c = s.cc.c)

/-- Every instruction leaves alone each general register that R22 does not name for it. -/
def Obligations.RegisterWriters : Prop :=
  ∀ (i : Instr) (s t : State), exec i s = .next t →
    (writesA i = false → t.a = s.a) ∧ (writesB i = false → t.b = s.b) ∧
    (writesX i = false → t.x = s.x) ∧ (writesSp i = false → t.sp = s.sp)

/-- Every instruction whose accesses call no device handler leaves every byte of memory alone except the bytes it stores to,
and the map, the handler table and the handlers' state with it. -/
def Obligations.MemoryFrame : Prop :=
  ∀ (i : Instr) (s t : State), exec i s = .next t → s.plainAt (accessedAt i s) = true →
    (∀ a : Word, a ∉ storedAt i s → t.bus.mem.read a = s.bus.mem.read a) ∧
    (∀ a : Word, a ∉ storedAt i s → s.bus.plain a = true → (t.bus.read a).1 = (s.bus.read a).1) ∧
    t.bus.map = s.bus.map ∧ t.bus.handlers = s.bus.handlers ∧ t.bus.dev = s.bus.dev

/-- No instruction writes the pending latch, and only WAI reads it: any other instruction does the same whatever is pending
(R41, R53, R365, R374). -/
def Obligations.PendingLatchIsUntouched : Prop :=
  ∀ (i : Instr) (s t : State), exec i s = .next t →
    t.pend = s.pend ∧
    (i ≠ .wai → ∀ p : Pend, exec i { s with pend := p } = .next { t with pend := p })

/-- Every instruction but an idle `WAI` charges its base cost, at least 2 and a taken branch no more, and leaves the stop
reason alone (R140, R108, R141); an idle `WAI` leaves the budget 0 and the stop reason `wait` (R138). A `WAI` that finds a pending
bit sends the next turn to the arbiter; every other instruction leaves the point of the run loop where it finds it, which in a
turn is the budget test (`loop` and `budgetIn` are the model's own fields, log 6). -/
def Obligations.CostsAreTheTables : Prop :=
  ∀ (i : Instr) (s t : State), exec i s = .next t →
    2 ≤ baseCost i ∧ t.budgetIn = s.budgetIn ∧
    ((i = .wai → s.pend ≠ { nmi := false, irq := false }) → t.budget = s.budget - baseCost i ∧ t.stop = s.stop) ∧
    (i = .wai → s.pend = { nmi := false, irq := false } → t.budget = 0 ∧ t.stop = .wait) ∧
    (i = .wai → s.pend ≠ { nmi := false, irq := false } → t.loop = .afterWait) ∧
    ((i = .wai → s.pend = { nmi := false, irq := false }) → t.loop = s.loop)

/-! The host port. -/

/-- The reset transaction (R410 to R414): the flags, `pc` from two routed reads at the reset vector, high byte first; it
writes no memory, map, handler table, `pend` or `budget`. -/
def Obligations.ResetTransaction : Prop :=
  ∀ s : State,
    let r := s.bus.readBig 0xFFFE#16;
    let t := resetTransaction s;
    t.pc = r.1 ∧ t.bus = r.2 ∧
    t.cc = { h := false, i := true, n := false, z := false, v := false, c := false } ∧
    t.stop = .none ∧ t.pend = s.pend ∧ t.budget = s.budget ∧
    (s.plainAt [0xFFFE#16, 0xFFFF#16] = true → t.bus = s.bus) ∧
    (resolve s.bus.map 0xFFFE#16 = none → resolve s.bus.map 0xFFFF#16 = none → t.pc = 0x0000#16)

/-- Reading the register file and writing it back leaves the machine unchanged, what is written reads back, and bits 7 and 6
of the flags byte are ignored (R26, R36). -/
def Obligations.RegisterFileRoundTrip : Prop :=
  ∀ (s : State) (rf : RegFile),
    setRegisters (getRegisters s) s = s ∧
    getRegisters (setRegisters rf s) = { rf with image := rf.image ||| 0xC0#8 } ∧
    (setRegisters rf s).bus = s.bus ∧ (setRegisters rf s).pend = s.pend ∧
    setRegisters { rf with image := rf.image &&& 0x3F#8 } s = setRegisters rf s

/-- A host step first loads the latch from the mask, bit 1 NMI and bit 0 IRQ, the budget from its argument, and the stop
reason `budget_exhausted` (R41, R42, R43, R133), and touches nothing else but the model's own `budgetIn` and `loop` (log 6). Its
result by its stop reason (R139): a budget that is not positive runs nothing and returns 0; a step that ends in an illegal opcode or
an idle WAI returns the whole budget; a step that exhausts its budget returns at least the budget. The latch the host reads after
it, numbered as the mask is, holds no bit that was not passed (R41). -/
def Obligations.StepResultByStopReason : Prop :=
  ∀ (fuel : Nat) (pending : BitVec 2) (budget n : Int) (s t : State),
    beginStep pending budget s =
      { s with
        pend := { nmi := pending.getLsbD 1, irq := pending.getLsbD 0 }
        budget := budget, budgetIn := budget, stop := .budgetExhausted, loop := .top } ∧
    t.pend.mask.toNat = 2 * t.pend.nmi.toNat + t.pend.irq.toNat ∧
    (stepTransaction fuel pending budget s = some (n, t) →
      t.budgetIn = budget ∧ n = budget - t.budget ∧
      (budget ≤ 0 → n = 0 ∧ t = beginStep pending budget s) ∧
      (t.stop = .illegalOpcode ∨ t.stop = .wait → n = budget) ∧
      (t.stop = .budgetExhausted → budget ≤ n) ∧
      t.stop ≠ .none ∧
      t.pend.mask &&& pending = t.pend.mask)

/-- A host step with nothing pending always ends, within as many turns as its budget, and so does one with an NMI alone or an
unmasked IRQ alone, which is serviced where the budget is positive (R141 with R133, R361). Any host step ends within as many
turns, or the last of them was a `WAI` with an IRQ pending and masked: that such a step is then not over is the model's reading
(log 15). -/
def Obligations.StepWithNothingPendingEnds : Prop :=
  ∀ (pending : BitVec 2) (budget : Int) (s : State),
    (pending = 0b00#2 ∨ pending = 0b10#2 ∨ (pending = 0b01#2 ∧ s.cc.i = false) →
      ∃ n t, stepTransaction budget.toNat pending budget s = some (n, t) ∧
        (pending = 0b00#2 ∨ 0 < budget → t.pend = { nmi := false, irq := false })) ∧
    ((∃ n t, stepTransaction budget.toNat pending budget s = some (n, t)) ∨
      ∃ t, Sys2Proof.core.run budget.toNat (beginStep pending budget s) = .next t ∧
        t.loop = .afterWait ∧ t.pend = { nmi := false, irq := true } ∧ t.cc.i = true)
end

