-- ==== Sys2Proof/Laws/Decode.lean ====
section
/-! SUPPORT. The bytes of a word and the word of its bytes (R67, R105). -/

namespace Sys2Proof

theorem highByte_append_lowByte (w : Word) : highByte w ++ lowByte w = w := by
  apply BitVec.eq_of_toNat_eq
  have := w.isLt
  rw [highByte, lowByte, BitVec.toNat_append, BitVec.extractLsb'_toNat, BitVec.extractLsb'_toNat,
    ← Nat.shiftLeft_add_eq_or_of_lt (by omega)]
  simp only [Nat.shiftLeft_eq, Nat.shiftRight_eq_div_pow]
  omega

/-- A word assembled from its own bytes, in the order they are stored (R68, R69). -/
theorem wordOfBytes_bytes (w : Word) :
    wordOfBytes Config.endian (firstByte Config.endian w) (secondByte Config.endian w) = w :=
  highByte_append_lowByte w

theorem highByte_toNat (w : Word) : (highByte w).toNat = w.toNat / 256 := by
  have := w.isLt
  rw [highByte, BitVec.extractLsb'_toNat, Nat.shiftRight_eq_div_pow]
  omega

theorem lowByte_toNat (w : Word) : (lowByte w).toNat = w.toNat % 256 := by
  rw [lowByte, BitVec.extractLsb'_toNat]
  rfl

end Sys2Proof
end

