-- ==== Sys2Proof/Laws/Flags.lean ====
section
/-! SUPPORT. The flag primitives read as arithmetic on numbers: a bit of a byte or of a sum as a comparison, the overflow
formula of R162 as "the true signed result does not fit", the half-carry of R163 as the carry out of the low nibble. -/

namespace Sys2Proof.Machine

theorem getLsbD_eq_decide {w : Nat} (x : BitVec w) (k : Nat) : x.getLsbD k = decide (x.toNat / 2 ^ k % 2 = 1) := by
  rw [BitVec.getLsbD, Nat.testBit_eq_decide_div_mod_eq]

theorem byte_msb_eq_decide (x : Byte) : x.msb = decide (128 ≤ x.toNat) := by
  simpa using BitVec.msb_eq_decide x

theorem byte_toInt (x : Byte) : x.toInt = if 128 ≤ x.toNat then (x.toNat : Int) - 256 else x.toNat := by
  rw [BitVec.toInt_eq_toNat_cond]
  split <;> split <;> omega

/-- The overflow formula over four bits: `a[7] ^ b[7] ^ r[7] ^ r[8]` (R162). -/
theorem overflow8_eq (a b : Byte) (r : BitVec 16) :
    overflow8 a b r = (xor (xor (xor (a.getLsbD 7) (b.getLsbD 7)) (r.getLsbD 7)) (r.getLsbD 8)) := by
  simp [overflow8]

theorem halfCarry8_eq (a b : Byte) (s : BitVec 16) :
    halfCarry8 a b s = (xor (xor (a.getLsbD 4) (b.getLsbD 4)) (s.getLsbD 4)) := by
  simp [halfCarry8]

theorem xor_decide₃ (p q r t : Prop) [Decidable p] [Decidable q] [Decidable r] [Decidable t] (h : t ↔ ((p ↔ q) ↔ r)) :
    (xor (xor (decide p) (decide q)) (decide r)) = decide t := by
  by_cases hp : p <;> by_cases hq : q <;> by_cases hr : r <;> simp_all

theorem xor_decide₄ (p q r u t : Prop) [Decidable p] [Decidable q] [Decidable r] [Decidable u] [Decidable t]
    (h : t ↔ ¬(((p ↔ q) ↔ r) ↔ u)) :
    (xor (xor (xor (decide p) (decide q)) (decide r)) (decide u)) = decide t := by
  by_cases hp : p <;> by_cases hq : q <;> by_cases hr : r <;> by_cases hu : u <;> simp_all

/-- `ADD8` is the sum of the two bytes and the carry, with the flags of the true sum (R161 to R163). -/
theorem add8_eq_sumFlags (f : Flags) (a b : Byte) (cin : Bool) :
    ((add8 a b cin).result, f.withHnzvc (add8 a b cin)) = sumFlags f a b cin := by
  have ha := a.isLt
  have hb := b.isLt
  have hc : cin.toNat ≤ 1 := Bool.toNat_le cin
  have hs : (BitVec.ofNat 16 (a.toNat + b.toNat + cin.toNat)).toNat = a.toNat + b.toNat + cin.toNat := by
    rw [BitVec.toNat_ofNat]; omega
  have hr : (BitVec.ofNat 16 (a.toNat + b.toNat + cin.toNat)).setWidth 8 =
      BitVec.ofNat 8 (a.toNat + b.toNat + cin.toNat) := by
    apply BitVec.eq_of_toNat_eq
    rw [BitVec.toNat_setWidth, hs, BitVec.toNat_ofNat]
  simp only [add8, Flags.withHnzvc, sumFlags, hr, halfCarry8_eq, overflow8_eq, overflows8, byte_toInt, byte_msb_eq_decide,
    getLsbD_eq_decide, hs, BitVec.toNat_ofNat]
  clear hs hr
  generalize a.toNat = a at *
  generalize b.toNat = b at *
  generalize cin.toNat = c at *
  refine Prod.ext rfl (Flags.mk.injEq .. ▸ ⟨?_, rfl, ?_, rfl, ?_, ?_⟩)
  · exact xor_decide₃ _ _ _ _ (by omega)
  · rw [decide_eq_decide]; omega
  · exact xor_decide₄ _ _ _ _ _ (by split <;> split <;> omega)
  · rw [decide_eq_decide]; omega

/-- `SUB8` under `carry_is_borrow` is the difference of the two bytes and the borrow, with the flags of the true difference
(R164, R165). -/
theorem sub8_eq_differenceFlags (f : Flags) (a b : Byte) (bin : Bool) :
    ((sub8 .carryIsBorrow a b bin).result, f.withNzvc (sub8 .carryIsBorrow a b bin)) = differenceFlags f a b bin := by
  have ha := a.isLt
  have hb := b.isLt
  have hc : bin.toNat ≤ 1 := Bool.toNat_le bin
  have hs : (BitVec.ofInt 16 ((a.toNat : Int) - b.toNat - bin.toNat)).toNat =
      (a.toNat + 65536 - b.toNat - bin.toNat) % 65536 := by
    rw [BitVec.toNat_ofInt]; omega
  have hr : (BitVec.ofInt 16 ((a.toNat : Int) - b.toNat - bin.toNat)).setWidth 8 =
      BitVec.ofNat 8 (a.toNat + 512 - b.toNat - bin.toNat) := by
    apply BitVec.eq_of_toNat_eq
    rw [BitVec.toNat_setWidth, hs, BitVec.toNat_ofNat]
    omega
  simp only [sub8, carryOfBorrow, Flags.withNzvc, differenceFlags, hr, overflow8_eq, overflows8, byte_toInt,
    byte_msb_eq_decide, getLsbD_eq_decide, hs, BitVec.toNat_ofNat]
  clear hs hr
  generalize a.toNat = a at *
  generalize b.toNat = b at *
  generalize bin.toNat = c at *
  refine Prod.ext rfl (Flags.mk.injEq .. ▸ ⟨rfl, rfl, ?_, rfl, ?_, ?_⟩)
  · rw [decide_eq_decide]; omega
  · refine xor_decide₄ _ _ _ _ _ ?_
    by_cases lt : a < b + c
    · split <;> split <;> omega
    · split <;> split <;> omega
  · rw [decide_eq_decide]; omega

/-- The flags image read back (R36). -/
@[simp] theorem Flags.ofImage_image (f : Flags) : Flags.ofImage f.image = f := by
  obtain ⟨h, i, n, z, v, c⟩ := f
  cases h <;> cases i <;> cases n <;> cases z <;> cases v <;> cases c <;> rfl

end Sys2Proof.Machine
end

