-- ==== Sys2Proof/Laws/Memory.lean ====
section
/-! SUPPORT. The laws of the backing store: a read after a write, and every operation keeps the canonical form. -/

namespace Sys2Proof

theorem Memory.lookup_insert (m : Memory) (k n : Nat) (v : Byte) :
    Memory.lookup (Memory.insert m k v) n = if n = k then v else Memory.lookup m n := by
  induction m with
  | nil => simp only [Memory.insert, Memory.lookup, eq_comm]
  | cons c m ih =>
    obtain ⟨j, w⟩ := c
    simp only [Memory.insert]
    split
    · rw [Memory.lookup, if_congr (eq_comm (a := k)) rfl rfl]
    · by_cases h : n = k
      · subst h
        split
        · subst_vars
          rw [Memory.lookup, if_pos rfl, if_pos rfl]
        · rw [Memory.lookup, if_neg (Ne.symm ‹_›), ih, if_pos rfl, if_pos rfl]
      · rw [if_neg h]
        split
        · subst_vars
          rw [Memory.lookup, Memory.lookup, if_neg (Ne.symm h), if_neg (Ne.symm h)]
        · rw [Memory.lookup, Memory.lookup, ih, if_neg h]

theorem Memory.lookup_erase (m : Memory) (k n : Nat) :
    Memory.lookup (Memory.erase m k) n = if n = k then Memory.unlisted else Memory.lookup m n := by
  induction m with
  | nil => simp [Memory.erase, Memory.lookup]
  | cons c m ih =>
    obtain ⟨j, w⟩ := c
    simp only [Memory.erase]
    by_cases h : n = k
    · subst h
      split
      · rw [ih, if_pos rfl, if_pos rfl]
      · rw [Memory.lookup, if_neg ‹_›, ih, if_pos rfl, if_pos rfl]
    · rw [if_neg h] at ih ⊢
      split
      · subst_vars
        rw [ih, Memory.lookup, if_neg (Ne.symm h)]
      · rw [Memory.lookup, Memory.lookup, ih]

/-- Reading after a write: the written byte gives the value written, every other byte what it gave before. -/
theorem Memory.read_write (m : Memory) (a b : Word) (v : Byte) :
    (m.write a v).read b = if b = a then v else m.read b := by
  have key : b.toNat = a.toNat ↔ b = a := BitVec.toNat_inj
  rw [Memory.read, Memory.write, Memory.read]
  split
  · rw [Memory.lookup_erase, if_congr key rfl rfl]
    subst_vars
    rfl
  · rw [Memory.lookup_insert, if_congr key rfl rfl]

@[simp] theorem Memory.read_write_self (m : Memory) (a : Word) (v : Byte) : (m.write a v).read a = v := by
  simp [Memory.read_write]

theorem Memory.read_write_of_ne (m : Memory) {a b : Word} (v : Byte) (h : b ≠ a) :
    (m.write a v).read b = m.read b := by
  simp [Memory.read_write, h]

theorem Memory.wfFrom_mono {lo lo' : Nat} {m : Memory} (h : Memory.wfFrom lo m = true) (le : lo' ≤ lo) :
    Memory.wfFrom lo' m = true := by
  cases m with
  | nil => rfl
  | cons c m =>
    simp only [Memory.wfFrom, Bool.and_eq_true, decide_eq_true_eq] at h ⊢
    exact ⟨⟨⟨by omega, h.1.1.2⟩, h.1.2⟩, h.2⟩

theorem Memory.wfFrom_erase {lo : Nat} {m : Memory} (k : Nat) (h : Memory.wfFrom lo m = true) :
    Memory.wfFrom lo (Memory.erase m k) = true := by
  induction m generalizing lo with
  | nil => rfl
  | cons c m ih =>
    obtain ⟨j, w⟩ := c
    simp only [Memory.wfFrom, Bool.and_eq_true, decide_eq_true_eq] at h
    simp only [Memory.erase]
    split
    · exact Memory.wfFrom_mono (ih h.2) (by omega)
    · simp only [Memory.wfFrom, Bool.and_eq_true, decide_eq_true_eq]
      exact ⟨h.1, ih h.2⟩

theorem Memory.wfFrom_insert {lo : Nat} {m : Memory} {k : Nat} {v : Byte} (h : Memory.wfFrom lo m = true)
    (hlo : lo ≤ k) (hk : k < 65536) (hv : v ≠ Memory.unlisted) :
    Memory.wfFrom lo (Memory.insert m k v) = true := by
  induction m generalizing lo with
  | nil => simp [Memory.insert, Memory.wfFrom, hlo, hk, hv]
  | cons c m ih =>
    obtain ⟨j, w⟩ := c
    simp only [Memory.wfFrom, Bool.and_eq_true, decide_eq_true_eq] at h
    simp only [Memory.insert]
    split
    · simp only [Memory.wfFrom, Bool.and_eq_true, decide_eq_true_eq]
      exact ⟨⟨⟨hlo, hk⟩, hv⟩, ⟨⟨by omega, h.1.1.2⟩, h.1.2⟩, h.2⟩
    · split
      · subst_vars
        simp only [Memory.wfFrom, Bool.and_eq_true, decide_eq_true_eq]
        exact ⟨⟨⟨hlo, hk⟩, hv⟩, h.2⟩
      · simp only [Memory.wfFrom, Bool.and_eq_true, decide_eq_true_eq]
        exact ⟨h.1, ih h.2 (by omega)⟩

/-- A write keeps the canonical form. -/
theorem Memory.wf_write {m : Memory} (a : Word) (v : Byte) (h : Memory.wf m = true) :
    Memory.wf (m.write a v) = true := by
  simp only [Memory.write]
  split
  · exact Memory.wfFrom_erase _ h
  · exact Memory.wfFrom_insert h (Nat.zero_le _) a.isLt ‹_›

/-- Loading an image keeps the canonical form. -/
theorem Memory.wf_load {m : Memory} (a : Word) (vs : List Byte) (h : Memory.wf m = true) :
    Memory.wf (m.load a vs) = true := by
  induction vs generalizing m a with
  | nil => exact h
  | cons v vs ih => exact ih _ (Memory.wf_write a v h)

/-- A list of writes, as a handler call makes them, keeps the canonical form. -/
theorem Memory.wf_writes {m : Memory} (ws : List (Word × Byte)) (h : Memory.wf m = true) :
    Memory.wf (ws.foldl (fun m w => Memory.write m w.1 w.2) m) = true := by
  induction ws generalizing m with
  | nil => exact h
  | cons w ws ih => exact ih (Memory.wf_write w.1 w.2 h)

/-- Two canonical stores that read alike from `lo` on are the same list. -/
theorem Memory.eq_of_lookup_eq {lo : Nat} {m k : Memory} (hm : Memory.wfFrom lo m = true)
    (hk : Memory.wfFrom lo k = true) (h : ∀ n, lo ≤ n → Memory.lookup m n = Memory.lookup k n) : m = k := by
  induction m generalizing k lo with
  | nil =>
    cases k with
    | nil => rfl
    | cons c k =>
      simp only [Memory.wfFrom, Bool.and_eq_true, decide_eq_true_eq] at hk
      have := h c.1 hk.1.1.1
      simp [Memory.lookup] at this
      exact absurd this.symm hk.1.2
  | cons c m ih =>
    simp only [Memory.wfFrom, Bool.and_eq_true, decide_eq_true_eq] at hm
    cases k with
    | nil =>
      have := h c.1 hm.1.1.1
      simp [Memory.lookup] at this
      exact absurd this hm.1.2
    | cons d k =>
      simp only [Memory.wfFrom, Bool.and_eq_true, decide_eq_true_eq] at hk
      obtain ⟨cj, cv⟩ := c
      obtain ⟨dj, dv⟩ := d
      have below : ∀ {l : Nat} {m : Memory} {n : Nat}, Memory.wfFrom l m = true → n < l →
          Memory.lookup m n = Memory.unlisted := by
        intro l m n hl hn
        induction m generalizing l with
        | nil => rfl
        | cons e m ih =>
          simp only [Memory.wfFrom, Bool.and_eq_true, decide_eq_true_eq] at hl
          simp only [Memory.lookup]
          rw [if_neg (by omega)]
          exact ih hl.2 (by omega)
      have keys : cj = dj := by
        rcases Nat.lt_trichotomy cj dj with lt | eq | gt
        · have := h cj hm.1.1.1
          simp only [Memory.lookup, if_true] at this
          rw [if_neg (by omega), below hk.2 (by omega)] at this
          exact absurd this hm.1.2
        · exact eq
        · have := h dj hk.1.1.1
          simp only [Memory.lookup, if_true] at this
          rw [if_neg (by omega), below hm.2 (by omega)] at this
          exact absurd this.symm hk.1.2
      subst keys
      have vals := h cj hm.1.1.1
      simp only [Memory.lookup, if_true] at vals
      subst vals
      congr 1
      refine ih hm.2 hk.2 fun n hn => ?_
      have := h n (by omega)
      simp only [Memory.lookup] at this
      rwa [if_neg (by omega), if_neg (by omega)] at this

/-- Equal memories are equal data: two canonical stores that read alike are the same list. -/
theorem Memory.eq_of_read_eq {m k : Memory} (hm : Memory.wf m = true) (hk : Memory.wf k = true)
    (h : ∀ a : Word, m.read a = k.read a) : m = k := by
  have above : ∀ {l : Nat} {m : Memory} {n : Nat}, Memory.wfFrom l m = true → 65536 ≤ n →
      Memory.lookup m n = Memory.unlisted := by
    intro l m n hl hn
    induction m generalizing l with
    | nil => rfl
    | cons e m ih =>
      simp only [Memory.wfFrom, Bool.and_eq_true, decide_eq_true_eq] at hl
      simp only [Memory.lookup]
      rw [if_neg (by omega)]
      exact ih hl.2
  refine Memory.eq_of_lookup_eq hm hk fun n _ => ?_
  by_cases hn : n < 65536
  · have := h (BitVec.ofNat 16 n)
    simpa [Memory.read, BitVec.toNat_ofNat, Nat.mod_eq_of_lt hn] using this
  · rw [above hm (by omega), above hk (by omega)]

end Sys2Proof
end

