-- ==== Sys2Proof/Laws/State.lean ====
section
/-! SUPPORT. What each named update of the state does to each field: one lemma per field per update. -/

namespace Sys2Proof.Machine

@[simp] theorem State.setA_a (s : State) (v : Byte) : (s.setA v).a = v := rfl
@[simp] theorem State.setA_b (s : State) (v : Byte) : (s.setA v).b = s.b := rfl
@[simp] theorem State.setA_x (s : State) (v : Byte) : (s.setA v).x = s.x := rfl
@[simp] theorem State.setA_sp (s : State) (v : Byte) : (s.setA v).sp = s.sp := rfl
@[simp] theorem State.setA_pc (s : State) (v : Byte) : (s.setA v).pc = s.pc := rfl
@[simp] theorem State.setA_cc (s : State) (v : Byte) : (s.setA v).cc = s.cc := rfl
@[simp] theorem State.setA_pend (s : State) (v : Byte) : (s.setA v).pend = s.pend := rfl
@[simp] theorem State.setA_budget (s : State) (v : Byte) : (s.setA v).budget = s.budget := rfl
@[simp] theorem State.setA_budgetIn (s : State) (v : Byte) : (s.setA v).budgetIn = s.budgetIn := rfl
@[simp] theorem State.setA_stop (s : State) (v : Byte) : (s.setA v).stop = s.stop := rfl
@[simp] theorem State.setA_loop (s : State) (v : Byte) : (s.setA v).loop = s.loop := rfl
@[simp] theorem State.setA_bus (s : State) (v : Byte) : (s.setA v).bus = s.bus := rfl
@[simp] theorem State.setA_resets (s : State) (v : Byte) : (s.setA v).resets = s.resets := rfl

@[simp] theorem State.setB_a (s : State) (v : Byte) : (s.setB v).a = s.a := rfl
@[simp] theorem State.setB_b (s : State) (v : Byte) : (s.setB v).b = v := rfl
@[simp] theorem State.setB_x (s : State) (v : Byte) : (s.setB v).x = s.x := rfl
@[simp] theorem State.setB_sp (s : State) (v : Byte) : (s.setB v).sp = s.sp := rfl
@[simp] theorem State.setB_pc (s : State) (v : Byte) : (s.setB v).pc = s.pc := rfl
@[simp] theorem State.setB_cc (s : State) (v : Byte) : (s.setB v).cc = s.cc := rfl
@[simp] theorem State.setB_pend (s : State) (v : Byte) : (s.setB v).pend = s.pend := rfl
@[simp] theorem State.setB_budget (s : State) (v : Byte) : (s.setB v).budget = s.budget := rfl
@[simp] theorem State.setB_budgetIn (s : State) (v : Byte) : (s.setB v).budgetIn = s.budgetIn := rfl
@[simp] theorem State.setB_stop (s : State) (v : Byte) : (s.setB v).stop = s.stop := rfl
@[simp] theorem State.setB_loop (s : State) (v : Byte) : (s.setB v).loop = s.loop := rfl
@[simp] theorem State.setB_bus (s : State) (v : Byte) : (s.setB v).bus = s.bus := rfl
@[simp] theorem State.setB_resets (s : State) (v : Byte) : (s.setB v).resets = s.resets := rfl

@[simp] theorem State.setX_a (s : State) (v : Word) : (s.setX v).a = s.a := rfl
@[simp] theorem State.setX_b (s : State) (v : Word) : (s.setX v).b = s.b := rfl
@[simp] theorem State.setX_x (s : State) (v : Word) : (s.setX v).x = v := rfl
@[simp] theorem State.setX_sp (s : State) (v : Word) : (s.setX v).sp = s.sp := rfl
@[simp] theorem State.setX_pc (s : State) (v : Word) : (s.setX v).pc = s.pc := rfl
@[simp] theorem State.setX_cc (s : State) (v : Word) : (s.setX v).cc = s.cc := rfl
@[simp] theorem State.setX_pend (s : State) (v : Word) : (s.setX v).pend = s.pend := rfl
@[simp] theorem State.setX_budget (s : State) (v : Word) : (s.setX v).budget = s.budget := rfl
@[simp] theorem State.setX_budgetIn (s : State) (v : Word) : (s.setX v).budgetIn = s.budgetIn := rfl
@[simp] theorem State.setX_stop (s : State) (v : Word) : (s.setX v).stop = s.stop := rfl
@[simp] theorem State.setX_loop (s : State) (v : Word) : (s.setX v).loop = s.loop := rfl
@[simp] theorem State.setX_bus (s : State) (v : Word) : (s.setX v).bus = s.bus := rfl
@[simp] theorem State.setX_resets (s : State) (v : Word) : (s.setX v).resets = s.resets := rfl

@[simp] theorem State.setSp_a (s : State) (v : Word) : (s.setSp v).a = s.a := rfl
@[simp] theorem State.setSp_b (s : State) (v : Word) : (s.setSp v).b = s.b := rfl
@[simp] theorem State.setSp_x (s : State) (v : Word) : (s.setSp v).x = s.x := rfl
@[simp] theorem State.setSp_sp (s : State) (v : Word) : (s.setSp v).sp = v := rfl
@[simp] theorem State.setSp_pc (s : State) (v : Word) : (s.setSp v).pc = s.pc := rfl
@[simp] theorem State.setSp_cc (s : State) (v : Word) : (s.setSp v).cc = s.cc := rfl
@[simp] theorem State.setSp_pend (s : State) (v : Word) : (s.setSp v).pend = s.pend := rfl
@[simp] theorem State.setSp_budget (s : State) (v : Word) : (s.setSp v).budget = s.budget := rfl
@[simp] theorem State.setSp_budgetIn (s : State) (v : Word) : (s.setSp v).budgetIn = s.budgetIn := rfl
@[simp] theorem State.setSp_stop (s : State) (v : Word) : (s.setSp v).stop = s.stop := rfl
@[simp] theorem State.setSp_loop (s : State) (v : Word) : (s.setSp v).loop = s.loop := rfl
@[simp] theorem State.setSp_bus (s : State) (v : Word) : (s.setSp v).bus = s.bus := rfl
@[simp] theorem State.setSp_resets (s : State) (v : Word) : (s.setSp v).resets = s.resets := rfl

@[simp] theorem State.setPc_a (s : State) (v : Word) : (s.setPc v).a = s.a := rfl
@[simp] theorem State.setPc_b (s : State) (v : Word) : (s.setPc v).b = s.b := rfl
@[simp] theorem State.setPc_x (s : State) (v : Word) : (s.setPc v).x = s.x := rfl
@[simp] theorem State.setPc_sp (s : State) (v : Word) : (s.setPc v).sp = s.sp := rfl
@[simp] theorem State.setPc_pc (s : State) (v : Word) : (s.setPc v).pc = v := rfl
@[simp] theorem State.setPc_cc (s : State) (v : Word) : (s.setPc v).cc = s.cc := rfl
@[simp] theorem State.setPc_pend (s : State) (v : Word) : (s.setPc v).pend = s.pend := rfl
@[simp] theorem State.setPc_budget (s : State) (v : Word) : (s.setPc v).budget = s.budget := rfl
@[simp] theorem State.setPc_budgetIn (s : State) (v : Word) : (s.setPc v).budgetIn = s.budgetIn := rfl
@[simp] theorem State.setPc_stop (s : State) (v : Word) : (s.setPc v).stop = s.stop := rfl
@[simp] theorem State.setPc_loop (s : State) (v : Word) : (s.setPc v).loop = s.loop := rfl
@[simp] theorem State.setPc_bus (s : State) (v : Word) : (s.setPc v).bus = s.bus := rfl
@[simp] theorem State.setPc_resets (s : State) (v : Word) : (s.setPc v).resets = s.resets := rfl

@[simp] theorem State.setCc_a (s : State) (v : Flags) : (s.setCc v).a = s.a := rfl
@[simp] theorem State.setCc_b (s : State) (v : Flags) : (s.setCc v).b = s.b := rfl
@[simp] theorem State.setCc_x (s : State) (v : Flags) : (s.setCc v).x = s.x := rfl
@[simp] theorem State.setCc_sp (s : State) (v : Flags) : (s.setCc v).sp = s.sp := rfl
@[simp] theorem State.setCc_pc (s : State) (v : Flags) : (s.setCc v).pc = s.pc := rfl
@[simp] theorem State.setCc_cc (s : State) (v : Flags) : (s.setCc v).cc = v := rfl
@[simp] theorem State.setCc_pend (s : State) (v : Flags) : (s.setCc v).pend = s.pend := rfl
@[simp] theorem State.setCc_budget (s : State) (v : Flags) : (s.setCc v).budget = s.budget := rfl
@[simp] theorem State.setCc_budgetIn (s : State) (v : Flags) : (s.setCc v).budgetIn = s.budgetIn := rfl
@[simp] theorem State.setCc_stop (s : State) (v : Flags) : (s.setCc v).stop = s.stop := rfl
@[simp] theorem State.setCc_loop (s : State) (v : Flags) : (s.setCc v).loop = s.loop := rfl
@[simp] theorem State.setCc_bus (s : State) (v : Flags) : (s.setCc v).bus = s.bus := rfl
@[simp] theorem State.setCc_resets (s : State) (v : Flags) : (s.setCc v).resets = s.resets := rfl

@[simp] theorem State.setPend_a (s : State) (v : Pend) : (s.setPend v).a = s.a := rfl
@[simp] theorem State.setPend_b (s : State) (v : Pend) : (s.setPend v).b = s.b := rfl
@[simp] theorem State.setPend_x (s : State) (v : Pend) : (s.setPend v).x = s.x := rfl
@[simp] theorem State.setPend_sp (s : State) (v : Pend) : (s.setPend v).sp = s.sp := rfl
@[simp] theorem State.setPend_pc (s : State) (v : Pend) : (s.setPend v).pc = s.pc := rfl
@[simp] theorem State.setPend_cc (s : State) (v : Pend) : (s.setPend v).cc = s.cc := rfl
@[simp] theorem State.setPend_pend (s : State) (v : Pend) : (s.setPend v).pend = v := rfl
@[simp] theorem State.setPend_budget (s : State) (v : Pend) : (s.setPend v).budget = s.budget := rfl
@[simp] theorem State.setPend_budgetIn (s : State) (v : Pend) : (s.setPend v).budgetIn = s.budgetIn := rfl
@[simp] theorem State.setPend_stop (s : State) (v : Pend) : (s.setPend v).stop = s.stop := rfl
@[simp] theorem State.setPend_loop (s : State) (v : Pend) : (s.setPend v).loop = s.loop := rfl
@[simp] theorem State.setPend_bus (s : State) (v : Pend) : (s.setPend v).bus = s.bus := rfl
@[simp] theorem State.setPend_resets (s : State) (v : Pend) : (s.setPend v).resets = s.resets := rfl

@[simp] theorem State.setBudget_a (s : State) (v : Int) : (s.setBudget v).a = s.a := rfl
@[simp] theorem State.setBudget_b (s : State) (v : Int) : (s.setBudget v).b = s.b := rfl
@[simp] theorem State.setBudget_x (s : State) (v : Int) : (s.setBudget v).x = s.x := rfl
@[simp] theorem State.setBudget_sp (s : State) (v : Int) : (s.setBudget v).sp = s.sp := rfl
@[simp] theorem State.setBudget_pc (s : State) (v : Int) : (s.setBudget v).pc = s.pc := rfl
@[simp] theorem State.setBudget_cc (s : State) (v : Int) : (s.setBudget v).cc = s.cc := rfl
@[simp] theorem State.setBudget_pend (s : State) (v : Int) : (s.setBudget v).pend = s.pend := rfl
@[simp] theorem State.setBudget_budget (s : State) (v : Int) : (s.setBudget v).budget = v := rfl
@[simp] theorem State.setBudget_budgetIn (s : State) (v : Int) : (s.setBudget v).budgetIn = s.budgetIn := rfl
@[simp] theorem State.setBudget_stop (s : State) (v : Int) : (s.setBudget v).stop = s.stop := rfl
@[simp] theorem State.setBudget_loop (s : State) (v : Int) : (s.setBudget v).loop = s.loop := rfl
@[simp] theorem State.setBudget_bus (s : State) (v : Int) : (s.setBudget v).bus = s.bus := rfl
@[simp] theorem State.setBudget_resets (s : State) (v : Int) : (s.setBudget v).resets = s.resets := rfl

@[simp] theorem State.setStop_a (s : State) (v : Stop) : (s.setStop v).a = s.a := rfl
@[simp] theorem State.setStop_b (s : State) (v : Stop) : (s.setStop v).b = s.b := rfl
@[simp] theorem State.setStop_x (s : State) (v : Stop) : (s.setStop v).x = s.x := rfl
@[simp] theorem State.setStop_sp (s : State) (v : Stop) : (s.setStop v).sp = s.sp := rfl
@[simp] theorem State.setStop_pc (s : State) (v : Stop) : (s.setStop v).pc = s.pc := rfl
@[simp] theorem State.setStop_cc (s : State) (v : Stop) : (s.setStop v).cc = s.cc := rfl
@[simp] theorem State.setStop_pend (s : State) (v : Stop) : (s.setStop v).pend = s.pend := rfl
@[simp] theorem State.setStop_budget (s : State) (v : Stop) : (s.setStop v).budget = s.budget := rfl
@[simp] theorem State.setStop_budgetIn (s : State) (v : Stop) : (s.setStop v).budgetIn = s.budgetIn := rfl
@[simp] theorem State.setStop_stop (s : State) (v : Stop) : (s.setStop v).stop = v := rfl
@[simp] theorem State.setStop_loop (s : State) (v : Stop) : (s.setStop v).loop = s.loop := rfl
@[simp] theorem State.setStop_bus (s : State) (v : Stop) : (s.setStop v).bus = s.bus := rfl
@[simp] theorem State.setStop_resets (s : State) (v : Stop) : (s.setStop v).resets = s.resets := rfl

@[simp] theorem State.setLoop_a (s : State) (v : LoopPoint) : (s.setLoop v).a = s.a := rfl
@[simp] theorem State.setLoop_b (s : State) (v : LoopPoint) : (s.setLoop v).b = s.b := rfl
@[simp] theorem State.setLoop_x (s : State) (v : LoopPoint) : (s.setLoop v).x = s.x := rfl
@[simp] theorem State.setLoop_sp (s : State) (v : LoopPoint) : (s.setLoop v).sp = s.sp := rfl
@[simp] theorem State.setLoop_pc (s : State) (v : LoopPoint) : (s.setLoop v).pc = s.pc := rfl
@[simp] theorem State.setLoop_cc (s : State) (v : LoopPoint) : (s.setLoop v).cc = s.cc := rfl
@[simp] theorem State.setLoop_pend (s : State) (v : LoopPoint) : (s.setLoop v).pend = s.pend := rfl
@[simp] theorem State.setLoop_budget (s : State) (v : LoopPoint) : (s.setLoop v).budget = s.budget := rfl
@[simp] theorem State.setLoop_budgetIn (s : State) (v : LoopPoint) : (s.setLoop v).budgetIn = s.budgetIn := rfl
@[simp] theorem State.setLoop_stop (s : State) (v : LoopPoint) : (s.setLoop v).stop = s.stop := rfl
@[simp] theorem State.setLoop_loop (s : State) (v : LoopPoint) : (s.setLoop v).loop = v := rfl
@[simp] theorem State.setLoop_bus (s : State) (v : LoopPoint) : (s.setLoop v).bus = s.bus := rfl
@[simp] theorem State.setLoop_resets (s : State) (v : LoopPoint) : (s.setLoop v).resets = s.resets := rfl

@[simp] theorem State.setBus_a (s : State) (v : Bus) : (s.setBus v).a = s.a := rfl
@[simp] theorem State.setBus_b (s : State) (v : Bus) : (s.setBus v).b = s.b := rfl
@[simp] theorem State.setBus_x (s : State) (v : Bus) : (s.setBus v).x = s.x := rfl
@[simp] theorem State.setBus_sp (s : State) (v : Bus) : (s.setBus v).sp = s.sp := rfl
@[simp] theorem State.setBus_pc (s : State) (v : Bus) : (s.setBus v).pc = s.pc := rfl
@[simp] theorem State.setBus_cc (s : State) (v : Bus) : (s.setBus v).cc = s.cc := rfl
@[simp] theorem State.setBus_pend (s : State) (v : Bus) : (s.setBus v).pend = s.pend := rfl
@[simp] theorem State.setBus_budget (s : State) (v : Bus) : (s.setBus v).budget = s.budget := rfl
@[simp] theorem State.setBus_budgetIn (s : State) (v : Bus) : (s.setBus v).budgetIn = s.budgetIn := rfl
@[simp] theorem State.setBus_stop (s : State) (v : Bus) : (s.setBus v).stop = s.stop := rfl
@[simp] theorem State.setBus_loop (s : State) (v : Bus) : (s.setBus v).loop = s.loop := rfl
@[simp] theorem State.setBus_bus (s : State) (v : Bus) : (s.setBus v).bus = v := rfl
@[simp] theorem State.setBus_resets (s : State) (v : Bus) : (s.setBus v).resets = s.resets := rfl

@[simp] theorem State.setA_self (s : State) : s.setA s.a = s := rfl
@[simp] theorem State.setA_setA (s : State) (v w : Byte) : (s.setA v).setA w = s.setA w := rfl
@[simp] theorem State.setB_self (s : State) : s.setB s.b = s := rfl
@[simp] theorem State.setB_setB (s : State) (v w : Byte) : (s.setB v).setB w = s.setB w := rfl
@[simp] theorem State.setX_self (s : State) : s.setX s.x = s := rfl
@[simp] theorem State.setX_setX (s : State) (v w : Word) : (s.setX v).setX w = s.setX w := rfl
@[simp] theorem State.setSp_self (s : State) : s.setSp s.sp = s := rfl
@[simp] theorem State.setSp_setSp (s : State) (v w : Word) : (s.setSp v).setSp w = s.setSp w := rfl
@[simp] theorem State.setPc_self (s : State) : s.setPc s.pc = s := rfl
@[simp] theorem State.setPc_setPc (s : State) (v w : Word) : (s.setPc v).setPc w = s.setPc w := rfl
@[simp] theorem State.setCc_self (s : State) : s.setCc s.cc = s := rfl
@[simp] theorem State.setCc_setCc (s : State) (v w : Flags) : (s.setCc v).setCc w = s.setCc w := rfl
@[simp] theorem State.setPend_self (s : State) : s.setPend s.pend = s := rfl
@[simp] theorem State.setPend_setPend (s : State) (v w : Pend) : (s.setPend v).setPend w = s.setPend w := rfl
@[simp] theorem State.setBudget_self (s : State) : s.setBudget s.budget = s := rfl
@[simp] theorem State.setBudget_setBudget (s : State) (v w : Int) : (s.setBudget v).setBudget w = s.setBudget w := rfl
@[simp] theorem State.setStop_self (s : State) : s.setStop s.stop = s := rfl
@[simp] theorem State.setStop_setStop (s : State) (v w : Stop) : (s.setStop v).setStop w = s.setStop w := rfl
@[simp] theorem State.setLoop_self (s : State) : s.setLoop s.loop = s := rfl
@[simp] theorem State.setLoop_setLoop (s : State) (v w : LoopPoint) : (s.setLoop v).setLoop w = s.setLoop w := rfl
@[simp] theorem State.setBus_self (s : State) : s.setBus s.bus = s := rfl
@[simp] theorem State.setBus_setBus (s : State) (v w : Bus) : (s.setBus v).setBus w = s.setBus w := rfl

end Sys2Proof.Machine
end

