-- ==== Sys2Proof/Laws/Router.lean ====
section
/-! SUPPORT. What the memory router can do (R63, R64): one lemma for a routed read, one for a routed write, and that both keep
the canonical form and the legality of the map. -/

namespace Sys2Proof.Machine

/-- Everything a routed byte read can do (R63). -/
theorem Bus.read_cases (b : Bus) (a : Word) :
    (resolve b.map a = none ∧ b.read a = (0x00#8, b)) ∨
      (resolve b.map a = some .ram ∧ b.read a = (b.mem.read a, b)) ∨
      (resolve b.map a = some .rom ∧ b.read a = (b.mem.read a, b)) ∨
      (∃ h, resolve b.map a = some (.device h) ∧ b.read a = b.callRead h a) := by
  unfold Bus.read
  split <;> simp_all

/-- Everything a routed byte write can do (R64). -/
theorem Bus.write_cases (b : Bus) (a : Word) (v : Byte) :
    (resolve b.map a = none ∧ b.write a v = b) ∨
      (resolve b.map a = some .ram ∧ b.write a v = { b with mem := b.mem.write a v }) ∨
      (resolve b.map a = some .rom ∧ b.write a v = b) ∨
      (∃ h, resolve b.map a = some (.device h) ∧ b.write a v = b.callWrite h a v) := by
  unfold Bus.write
  split <;> simp_all

/-- A plain address resolves to no Device segment. -/
theorem Bus.plain_iff (b : Bus) (a : Word) : b.plain a = true ↔ ∀ h, resolve b.map a ≠ some (.device h) := by
  unfold Bus.plain
  split <;> simp_all

/-- A read of a plain address changes nothing (R74). -/
theorem Bus.read_plain {b : Bus} {a : Word} (h : b.plain a = true) : (b.read a).2 = b := by
  rw [Bus.plain_iff] at h
  rcases Bus.read_cases b a with ⟨_, e⟩ | ⟨_, e⟩ | ⟨_, e⟩ | ⟨k, e, _⟩
  · rw [e]
  · rw [e]
  · rw [e]
  · exact absurd e (h k)

/-- A write to a plain address leaves the map, the handler table and the handlers' state alone. -/
theorem Bus.write_plain {b : Bus} {a : Word} (v : Byte) (h : b.plain a = true) :
    (b.write a v).map = b.map ∧ (b.write a v).handlers = b.handlers ∧ (b.write a v).dev = b.dev := by
  rw [Bus.plain_iff] at h
  rcases Bus.write_cases b a v with ⟨_, e⟩ | ⟨_, e⟩ | ⟨_, e⟩ | ⟨k, e, _⟩
  · simp [e]
  · simp [e]
  · simp [e]
  · exact absurd e (h k)

/-- A write to a plain address leaves every other byte of `mem` alone. -/
theorem Bus.read_mem_write_plain {b : Bus} {a c : Word} (v : Byte) (h : b.plain a = true) (ne : c ≠ a) :
    (b.write a v).mem.read c = b.mem.read c := by
  rw [Bus.plain_iff] at h
  rcases Bus.write_cases b a v with ⟨_, e⟩ | ⟨_, e⟩ | ⟨_, e⟩ | ⟨k, e, _⟩
  · rw [e]
  · rw [e]; exact Memory.read_write_of_ne _ _ ne
  · rw [e]
  · exact absurd e (h k)

/-- The two things taking a handler's effect in can be (R66, R87, log 8): everything as the handler asks, or its map and handler
table refused. -/
theorem Bus.absorb_cases (b : Bus) (e : DeviceEffect) :
    (MemMap.wf e.map e.handlers = true ∧
        b.absorb e =
          { mem := e.writes.foldl (fun m w => Memory.write m w.1 w.2) b.mem, map := e.map, handlers := e.handlers,
            dev := e.dev }) ∨
      (MemMap.wf e.map e.handlers = false ∧
        b.absorb e =
          { b with mem := e.writes.foldl (fun m w => Memory.write m w.1 w.2) b.mem, dev := e.dev }) := by
  cases h : MemMap.wf e.map e.handlers <;> simp [Bus.absorb, h]

/-- Taking a handler's effect in keeps the canonical form and a legal map (R66, R87). -/
theorem Bus.absorb_wf {b : Bus} (e : DeviceEffect) (hm : Memory.wf b.mem = true)
    (hw : MemMap.wf b.map b.handlers = true) :
    Memory.wf (b.absorb e).mem = true ∧ MemMap.wf (b.absorb e).map (b.absorb e).handlers = true := by
  refine ⟨Memory.wf_writes _ hm, ?_⟩
  simp only [Bus.absorb]
  by_cases h : MemMap.wf e.map e.handlers = true
  · simp [h]
  · simpa [h] using hw

/-- A routed read keeps the canonical form and a legal map. -/
theorem Bus.read_wf {b : Bus} (a : Word) (hm : Memory.wf b.mem = true) (hw : MemMap.wf b.map b.handlers = true) :
    Memory.wf (b.read a).2.mem = true ∧ MemMap.wf (b.read a).2.map (b.read a).2.handlers = true := by
  rcases Bus.read_cases b a with ⟨_, e⟩ | ⟨_, e⟩ | ⟨_, e⟩ | ⟨k, _, e⟩
  · rw [e]; exact ⟨hm, hw⟩
  · rw [e]; exact ⟨hm, hw⟩
  · rw [e]; exact ⟨hm, hw⟩
  · rw [e]; exact Bus.absorb_wf _ hm hw

/-- A routed write keeps the canonical form and a legal map. -/
theorem Bus.write_wf {b : Bus} (a : Word) (v : Byte) (hm : Memory.wf b.mem = true)
    (hw : MemMap.wf b.map b.handlers = true) :
    Memory.wf (b.write a v).mem = true ∧ MemMap.wf (b.write a v).map (b.write a v).handlers = true := by
  rcases Bus.write_cases b a v with ⟨_, e⟩ | ⟨_, e⟩ | ⟨_, e⟩ | ⟨k, _, e⟩
  · rw [e]; exact ⟨hm, hw⟩
  · rw [e]; exact ⟨Memory.wf_write a v hm, hw⟩
  · rw [e]; exact ⟨hm, hw⟩
  · rw [e]; exact Bus.absorb_wf _ hm hw

end Sys2Proof.Machine
end

