-- ==== Sys2Proof/Laws/Ops.lean ====
section
/-! SUPPORT. What each shared operation can do, said once: the state it answers as one record update over the routed byte
accesses it makes, and that the memory side it leaves is reached from the one before by routed accesses alone. -/

namespace Sys2Proof.Machine

/-- The second memory side is reached from the first by a run of routed byte accesses. -/
inductive Bus.Accesses : Bus → Bus → Prop
  | refl (b : Bus) : Bus.Accesses b b
  | read {b c : Bus} (h : Bus.Accesses b c) (a : Word) : Bus.Accesses b (c.read a).2
  | write {b c : Bus} (h : Bus.Accesses b c) (a : Word) (v : Byte) : Bus.Accesses b (c.write a v)

theorem Bus.Accesses.trans {b c d : Bus} (h : Bus.Accesses b c) (k : Bus.Accesses c d) : Bus.Accesses b d := by
  induction k with
  | refl => exact h
  | read _ a ih => exact ih.read a
  | write _ a v ih => exact ih.write a v

/-- Routed accesses keep the canonical form and a legal map (R87). -/
theorem Bus.Accesses.wf {b c : Bus} (h : Bus.Accesses b c) (hb : Memory.wf b.mem = true ∧ MemMap.wf b.map b.handlers = true) :
    Memory.wf c.mem = true ∧ MemMap.wf c.map c.handlers = true := by
  induction h with
  | refl => exact hb
  | read _ a ih => exact Bus.read_wf a ih.1 ih.2
  | write _ a v ih => exact Bus.write_wf a v ih.1 ih.2

theorem State.wf_iff (s : State) :
    s.wf = true ↔ Memory.wf s.bus.mem = true ∧ MemMap.wf s.bus.map s.bus.handlers = true := by
  simp [State.wf]

/-- A state whose memory side was reached by routed accesses is as well formed as the one before. -/
theorem State.wf_of_accesses {s t : State} (h : Bus.Accesses s.bus t.bus) (hs : s.wf = true) : t.wf = true :=
  (State.wf_iff t).2 (h.wf ((State.wf_iff s).1 hs))

/-! Memory and stack. -/

theorem memRead_eq (a : Word) (s : State) : memRead a s = ((s.bus.read a).1, { s with bus := (s.bus.read a).2 }) := rfl

theorem memWrite_eq (a : Word) (v : Byte) (s : State) : memWrite a v s = { s with bus := s.bus.write a v } := rfl

theorem push8_eq (v : Byte) (s : State) : push8 v s = { s with sp := s.sp - 1#16, bus := s.bus.write s.sp v } := rfl

theorem pull8_eq (s : State) :
    pull8 s =
      ((s.bus.read (s.sp + 1#16)).1, { s with sp := s.sp + 1#16, bus := (s.bus.read (s.sp + 1#16)).2 }) := rfl

theorem word_sub_sub (a : Word) (m n : Nat) : a - BitVec.ofNat 16 m - BitVec.ofNat 16 n = a - BitVec.ofNat 16 (m + n) := by
  rw [BitVec.sub_sub, ← BitVec.ofNat_add]

theorem word_add_add (a : Word) (m n : Nat) : a + BitVec.ofNat 16 m + BitVec.ofNat 16 n = a + BitVec.ofNat 16 (m + n) := by
  rw [BitVec.add_assoc, ← BitVec.ofNat_add]

theorem push16_eq (w : Word) (s : State) :
    push16 w s =
      { s with
        sp := s.sp - 2#16
        bus := (s.bus.write s.sp (lowByte w)).write (s.sp - 1#16) (highByte w) } := by
  simp only [push16, push8_eq]
  rw [word_sub_sub s.sp 1 1]

theorem Bus.pushed_append (b : Bus) (sp : Word) (vs ws : List Byte) :
    b.pushed sp (vs ++ ws) = (b.pushed sp vs).pushed (sp - BitVec.ofNat 16 vs.length) ws := by
  induction vs generalizing b sp with
  | nil => simp [Bus.pushed]
  | cons v vs ih =>
    simp only [List.cons_append, Bus.pushed, List.length_cons, ih]
    rw [word_sub_sub sp 1, Nat.add_comm]

/-- The seven pushes of an entry (R366): the frame bytes at falling addresses, `SP` down by seven. -/
theorem pushFrame_eq (s : State) :
    pushFrame s = { s with sp := s.sp - 7#16, bus := s.bus.pushed s.sp (frameBytes s) } := by
  simp only [pushFrame, push16_eq, push8_eq, frameBytes, Bus.pushed]
  congr 1
  · simp only [BitVec.sub_sub, ← BitVec.ofNat_add]
  · simp only [BitVec.sub_sub, ← BitVec.ofNat_add]

theorem Bus.pushed_accesses (b : Bus) (sp : Word) (vs : List Byte) : Bus.Accesses b (b.pushed sp vs) := by
  induction vs generalizing b sp with
  | nil => exact .refl b
  | cons v vs ih => exact ((Bus.Accesses.refl b).write sp v).trans (ih ..)

theorem Bus.readBig_accesses (b : Bus) (a : Word) : Bus.Accesses b (b.readBig a).2 :=
  ((Bus.Accesses.refl b).read a).read _

theorem Bus.writeBig_accesses (b : Bus) (a w : Word) : Bus.Accesses b (b.writeBig a w) :=
  ((Bus.Accesses.refl b).write a _).write _ _

theorem memRead_accesses (a : Word) (s : State) : Bus.Accesses s.bus (memRead a s).2.bus :=
  (Bus.Accesses.refl _).read a

theorem memWrite_accesses (a : Word) (v : Byte) (s : State) : Bus.Accesses s.bus (memWrite a v s).bus :=
  (Bus.Accesses.refl _).write a v

theorem readWord_accesses (a : Word) (s : State) : Bus.Accesses s.bus (readWord a s).2.bus :=
  Bus.readBig_accesses s.bus a

theorem writeWord_accesses (a w : Word) (s : State) : Bus.Accesses s.bus (writeWord a w s).bus :=
  ((Bus.Accesses.refl _).write _ _).write _ _

theorem push8_accesses (v : Byte) (s : State) : Bus.Accesses s.bus (push8 v s).bus :=
  memWrite_accesses _ _ _

theorem pull8_accesses (s : State) : Bus.Accesses s.bus (pull8 s).2.bus :=
  (Bus.Accesses.refl s.bus).read _

theorem push16_accesses (w : Word) (s : State) : Bus.Accesses s.bus (push16 w s).bus :=
  (push8_accesses _ _).trans (push8_accesses _ _)

theorem pull16_accesses (s : State) : Bus.Accesses s.bus (pull16 s).2.bus :=
  (pull8_accesses s).trans (pull8_accesses _)

theorem pushFrame_accesses (s : State) : Bus.Accesses s.bus (pushFrame s).bus := by
  rw [pushFrame_eq]
  exact Bus.pushed_accesses ..

theorem enterInterrupt_accesses (vector : Word) (cost : Nat) (s : State) :
    Bus.Accesses s.bus (enterInterrupt vector cost s).bus :=
  (pushFrame_accesses s).trans (readWord_accesses vector (charge cost (setIMask true (pushFrame s))))

/-- Everything an interrupt entry does (R366, R340). -/
theorem enterInterrupt_eq (vector : Word) (cost : Nat) (s : State) : enterInterrupt vector cost s = s.entered vector cost := by
  rw [enterInterrupt, pushFrame_eq]
  rfl

/-- Everything a return from interrupt does (R341). -/
theorem returnFromInterrupt_eq (s : State) :
    returnFromInterrupt s =
      let r1 := s.bus.read (s.sp + 1#16)
      let r2 := r1.2.read (s.sp + 2#16)
      let r3 := r2.2.read (s.sp + 3#16)
      let r4 := r3.2.readBig (s.sp + 4#16)
      let r5 := r4.2.readBig (s.sp + 6#16)
      { s with
        cc := Flags.ofImage r1.1, b := r2.1, a := r3.1, x := r4.1, pc := r5.1, sp := s.sp + 7#16, bus := r5.2 } := by
  simp only [returnFromInterrupt, pull16, pull8_eq, State.setCc, State.setB, State.setA, State.setX, State.setPc,
    Bus.readBig, BitVec.add_assoc, ← BitVec.ofNat_add]

theorem returnFromInterrupt_accesses (s : State) : Bus.Accesses s.bus (returnFromInterrupt s).bus := by
  rw [returnFromInterrupt_eq]
  dsimp only
  have h1 := (Bus.Accesses.refl s.bus).read (s.sp + 1#16)
  generalize s.bus.read (s.sp + 1#16) = r1 at h1 ⊢
  have h2 := h1.read (s.sp + 2#16)
  generalize r1.2.read (s.sp + 2#16) = r2 at h2 ⊢
  have h3 := h2.read (s.sp + 3#16)
  generalize r2.2.read (s.sp + 3#16) = r3 at h3 ⊢
  have h4 := h3.trans (Bus.readBig_accesses r3.2 (s.sp + 4#16))
  generalize r3.2.readBig (s.sp + 4#16) = r4 at h4 ⊢
  exact h4.trans (Bus.readBig_accesses r4.2 (s.sp + 6#16))

/-- The three things the arbiter can do (R361 to R365). -/
theorem arbitrate_cases (ack : Nat) (s : State) :
    (s.pend.nmi = true ∧
        arbitrate ack s = { s.entered Config.vecNmi ack with pend := { s.pend with nmi := false } }) ∨
      (s.pend.nmi = false ∧ s.pend.irq = true ∧ s.cc.i = false ∧
        arbitrate ack s = { s.entered Config.vecIrq ack with pend := { s.pend with irq := false } }) ∨
      (serviceable s = false ∧ arbitrate ack s = s) := by
  simp only [arbitrate, serviceable, enterInterrupt_eq, State.setPend]
  cases s.pend.nmi <;> cases s.pend.irq <;> cases s.cc.i <;> simp

/-- The arbiter does nothing where nothing is serviceable (R361). -/
theorem arbitrate_of_not_serviceable {s : State} (ack : Nat) (h : serviceable s = false) : arbitrate ack s = s := by
  rcases arbitrate_cases ack s with ⟨h1, _⟩ | ⟨h1, h2, h3, _⟩ | ⟨_, e⟩
  · simp [serviceable, h1] at h
  · simp [serviceable, h1, h2, h3] at h
  · exact e

theorem State.entered_accesses (s : State) (vector : Word) (cost : Nat) : Bus.Accesses s.bus (s.entered vector cost).bus :=
  (Bus.pushed_accesses s.bus s.sp (frameBytes s)).trans (Bus.readBig_accesses _ vector)

theorem arbitrate_accesses (ack : Nat) (s : State) : Bus.Accesses s.bus (arbitrate ack s).bus := by
  rcases arbitrate_cases ack s with ⟨_, e⟩ | ⟨_, _, _, e⟩ | ⟨_, e⟩
  · rw [e]
    exact State.entered_accesses s Config.vecNmi ack
  · rw [e]
    exact State.entered_accesses s Config.vecIrq ack
  · rw [e]
    exact .refl _

/-- Pushes over RAM change nothing of the memory side but `mem` (R64, R200). -/
theorem Bus.pushed_ram (b : Bus) (sp : Word) (vs : List Byte)
    (h : ∀ k < vs.length, resolve b.map (sp - BitVec.ofNat 16 k) = some .ram) :
    b.pushed sp vs = { b with mem := Memory.pushed b.mem sp vs } := by
  induction vs generalizing b sp with
  | nil => rfl
  | cons v vs ih =>
    have h0 : resolve b.map sp = some .ram := by simpa using h 0 (by simp)
    have hw : b.write sp v = { b with mem := b.mem.write sp v } := by simp [Bus.write, h0]
    rw [Bus.pushed, hw, ih]
    · rfl
    · intro k hk
      rw [word_sub_sub sp 1, Nat.add_comm]
      exact h (k + 1) (by simpa using hk)

/-- A byte that no push stores to reads as before. -/
theorem Memory.read_pushed_of_ne (m : Memory) (sp a : Word) (vs : List Byte)
    (h : ∀ k < vs.length, a ≠ sp - BitVec.ofNat 16 k) : Memory.read (Memory.pushed m sp vs) a = Memory.read m a := by
  induction vs generalizing m sp with
  | nil => rfl
  | cons v vs ih =>
    rw [Memory.pushed, ih, Memory.read_write_of_ne]
    · simpa using h 0 (by simp)
    · intro k hk
      rw [word_sub_sub sp 1, Nat.add_comm]
      exact h (k + 1) (by simpa using hk)

/-- The memory of the reset state has the canonical form. -/
theorem State.reset_mem_wf : Memory.wf State.reset.bus.mem = true := rfl

/-! Operands. -/

theorem operand8_eq (src : Src8) (s : State) :
    operand8 src s = ((sourceByte src s).1, { s with bus := (sourceByte src s).2 }) := by
  cases src <;> rfl

theorem operand16_eq (src : Src16) (s : State) :
    operand16 src s = ((sourceWord src s).1, { s with bus := (sourceWord src s).2 }) := by
  cases src <;> rfl

theorem sourceByte_accesses (src : Src8) (s : State) : Bus.Accesses s.bus (sourceByte src s).2 := by
  cases src with
  | imm => exact .refl _
  | mem m => exact (Bus.Accesses.refl _).read _

theorem sourceWord_accesses (src : Src16) (s : State) : Bus.Accesses s.bus (sourceWord src s).2 := by
  cases src with
  | imm => exact .refl _
  | mem m => exact Bus.readBig_accesses _ _

/-! Branches and calls. -/

theorem relTarget_eq (rel8 : Byte) (s : State) : relTarget rel8 s = branchTarget s.pc rel8 := by
  rw [branchTarget, relTarget, BitVec.ofInt_add]
  congr 1
  simp

/-- Everything a conditional branch does (R310). -/
theorem condBranch_eq (cond : Bool) (rel8 : Byte) (s : State) : condBranch cond rel8 s = s.branched cond rel8 := by
  cases cond
  · rfl
  · simp only [condBranch, relTarget_eq]
    rfl

/-- Everything a call does (R326, R328). -/
theorem callTo_eq (target : Word) (s : State) :
    callTo target s =
      { s with
        pc := target, sp := s.sp - 2#16
        bus := (s.bus.write s.sp (lowByte s.pc)).write (s.sp - 1#16) (highByte s.pc) } := by
  rw [callTo, push16_eq]
  rfl

/-- Everything a return from a call does (R329). -/
theorem returnFromCall_eq (s : State) :
    returnFromCall s =
      { s with
        pc := (s.bus.readBig (s.sp + 1#16)).1, sp := s.sp + 2#16, bus := (s.bus.readBig (s.sp + 1#16)).2 } := by
  rw [← word_add_add s.sp 1 1]
  rfl

/-! Fetch. -/

theorem fetch8_eq (s : State) :
    fetch8 s = ((s.bus.read s.pc).1, { s with pc := s.pc + 1#16, bus := (s.bus.read s.pc).2 }) := rfl

theorem fetch8_accesses (s : State) : Bus.Accesses s.bus (fetch8 s).2.bus :=
  (Bus.Accesses.refl s.bus).read _

theorem fetchInstr_accesses (s : State) : Bus.Accesses s.bus (fetchInstr s).2.bus := by
  unfold fetchInstr
  simp only
  split
  · exact fetch8_accesses s
  · exact fetch8_accesses s
  · exact (fetch8_accesses s).trans (fetch8_accesses _)
  · exact ((fetch8_accesses s).trans (fetch8_accesses _)).trans (fetch8_accesses _)

/-- A byte that stands in RAM or ROM is what the routed read gives, and the read changes nothing (R63, R74). -/
theorem Bus.read_of_stored {b : Bus} {a : Word} (h : resolve b.map a = some .ram ∨ resolve b.map a = some .rom) :
    b.read a = (b.mem.read a, b) := by
  rcases h with h | h <;> simp [Bus.read, h]

/-- Bytes that stand in RAM or ROM are what the fetches give, and the fetches change nothing (R63, R74). -/
theorem State.fetched_of_storesAt {s : State} {a : Word} {vs : List Byte} (h : s.storesAt a vs) :
    s.bus.fetched a vs.length = (vs, s.bus) := by
  induction vs generalizing a with
  | nil => rfl
  | cons v vs ih =>
    obtain ⟨hk, hv, hs⟩ := h
    simp only [List.length_cons, Bus.fetched, Bus.read_of_stored hk, ih hs, hv]

/-- A fetch moves `pc` and the memory side and nothing else (R130, R131). -/
theorem fetchInstr_frame (s : State) :
    (fetchInstr s).2 = { s with pc := (fetchInstr s).2.pc, bus := (fetchInstr s).2.bus } := by
  unfold fetchInstr
  simp only
  split <;> rfl

/-- Where the routed reads from `pc` on give an instruction's bytes, the fetch is that instruction, with `pc` past it and the
memory side as the reads leave it (R130 to R135). -/
theorem fetchInstr_of_fetched {i : Instr} {s : State} (h : (s.bus.fetched s.pc (encode i).length).1 = encode i) :
    fetchInstr s =
      (some i,
        { s with
          pc := s.pc + BitVec.ofNat 16 (encode i).length, bus := (s.bus.fetched s.pc (encode i).length).2 }) := by
  have inh : ∀ op j, encode i = [op] → optable op = some (.inh j) → j = i →
      fetchInstr s = (some i, { s with pc := s.pc + 1#16, bus := (s.bus.fetched s.pc 1).2 }) := by
    rintro op j e1 e2 rfl
    simp only [e1, List.length_cons, List.length_nil, Bus.fetched, List.cons.injEq] at h
    simp only [fetchInstr, fetch8_eq, h.1, e2, Bus.fetched]
  have byte : ∀ op f v, encode i = [op, v] → optable op = some (.byte f) → f v = i →
      fetchInstr s = (some i, { s with pc := s.pc + 2#16, bus := (s.bus.fetched s.pc 2).2 }) := by
    rintro op f v e1 e2 rfl
    simp only [e1, List.length_cons, List.length_nil, Bus.fetched, List.cons.injEq] at h
    simp only [fetchInstr, fetch8_eq, h.1, h.2.1, e2, Bus.fetched]
    simp only [word_add_add s.pc 1 1]
  have word : ∀ op f v, encode i = encodeWord op v → optable op = some (.word f) → f v = i →
      fetchInstr s = (some i, { s with pc := s.pc + 3#16, bus := (s.bus.fetched s.pc 3).2 }) := by
    rintro op f v e1 e2 rfl
    simp only [e1, encodeWord, List.length_cons, List.length_nil, Bus.fetched, List.cons.injEq] at h
    simp only [fetchInstr, fetch16, fetch8_eq, h.1, h.2.1, h.2.2.1, e2, wordOfBytes_bytes, Bus.fetched]
    simp only [word_add_add s.pc 1 1, word_add_add s.pc 2 1]
  cases i <;> first | exact inh _ _ rfl rfl rfl | exact byte _ _ _ rfl rfl rfl | exact word _ _ _ rfl rfl rfl

/-! Turns. -/

/-- What one turn of the run loop can be (R133): nothing after the end, an illegal opcode's halt, or one instruction. -/
theorem step_cases (s : State) :
    (ended s = true ∧ step s = .next s) ∨
      (ended s = false ∧ ∃ t, fetchInstr (arbitrate (ackCost s.loop) (s.setLoop .top)) = (none, t) ∧
        step s = .next (haltIllegal t)) ∨
      (ended s = false ∧ ∃ i t, fetchInstr (arbitrate (ackCost s.loop) (s.setLoop .top)) = (some i, t) ∧
        step s = exec i t) := by
  unfold step
  cases h : ended s
  · refine .inr ?_
    rcases e : fetchInstr (arbitrate (ackCost s.loop) (s.setLoop .top)) with ⟨_ | i, t⟩
    · exact .inl ⟨rfl, t, rfl, rfl⟩
    · exact .inr ⟨rfl, i, t, rfl, rfl⟩
  · exact .inl ⟨rfl, rfl⟩

end Sys2Proof.Machine
end

