-- ==== Sys2Proof/Laws/PerInstr.lean ====
section
/-! SUPPORT. Facts stated per instruction: the length of an instruction's encoding is the one its opcode's table entry
calls for (R104: 1, 2 or 3 bytes, fixed by the opcode alone). -/

namespace Sys2Proof.Laws

/-- The length in bytes that a table entry fixes (R104). -/
def entryLength : Entry → Nat
  | .inh _ => 1
  | .byte _ => 2
  | .word _ => 3

/-- The opcode byte of the encoding has a table entry, and the entry fixes the length of the encoding (R104). -/
def EncodingLength.Statement (i : Instr) : Prop :=
  ((encode i).head?.bind optable).map entryLength = some (encode i).length

namespace EncodingLength

theorem nop : EncodingLength.Statement .nop := rfl
theorem tap : EncodingLength.Statement .tap := rfl
theorem tpa : EncodingLength.Statement .tpa := rfl
theorem inx : EncodingLength.Statement .inx := rfl
theorem dex : EncodingLength.Statement .dex := rfl
theorem clv : EncodingLength.Statement .clv := rfl
theorem sev : EncodingLength.Statement .sev := rfl
theorem clc : EncodingLength.Statement .clc := rfl
theorem sec : EncodingLength.Statement .sec := rfl
theorem cli : EncodingLength.Statement .cli := rfl
theorem sei : EncodingLength.Statement .sei := rfl
theorem sba : EncodingLength.Statement .sba := rfl
theorem cba : EncodingLength.Statement .cba := rfl
theorem tab : EncodingLength.Statement .tab := rfl
theorem tba : EncodingLength.Statement .tba := rfl
theorem daa : EncodingLength.Statement .daa := rfl
theorem aba : EncodingLength.Statement .aba := rfl
theorem bra (v : Byte) : EncodingLength.Statement (.bra v) := rfl
theorem bhi (v : Byte) : EncodingLength.Statement (.bhi v) := rfl
theorem bls (v : Byte) : EncodingLength.Statement (.bls v) := rfl
theorem bcc (v : Byte) : EncodingLength.Statement (.bcc v) := rfl
theorem bcs (v : Byte) : EncodingLength.Statement (.bcs v) := rfl
theorem bne (v : Byte) : EncodingLength.Statement (.bne v) := rfl
theorem beq (v : Byte) : EncodingLength.Statement (.beq v) := rfl
theorem bvc (v : Byte) : EncodingLength.Statement (.bvc v) := rfl
theorem bvs (v : Byte) : EncodingLength.Statement (.bvs v) := rfl
theorem bpl (v : Byte) : EncodingLength.Statement (.bpl v) := rfl
theorem bmi (v : Byte) : EncodingLength.Statement (.bmi v) := rfl
theorem bge (v : Byte) : EncodingLength.Statement (.bge v) := rfl
theorem blt (v : Byte) : EncodingLength.Statement (.blt v) := rfl
theorem bgt (v : Byte) : EncodingLength.Statement (.bgt v) := rfl
theorem ble (v : Byte) : EncodingLength.Statement (.ble v) := rfl
theorem tsx : EncodingLength.Statement .tsx := rfl
theorem ins : EncodingLength.Statement .ins := rfl
theorem pula : EncodingLength.Statement .pula := rfl
theorem pulb : EncodingLength.Statement .pulb := rfl
theorem des : EncodingLength.Statement .des := rfl
theorem txs : EncodingLength.Statement .txs := rfl
theorem psha : EncodingLength.Statement .psha := rfl
theorem pshb : EncodingLength.Statement .pshb := rfl
theorem rts : EncodingLength.Statement .rts := rfl
theorem rti : EncodingLength.Statement .rti := rfl
theorem wai : EncodingLength.Statement .wai := rfl
theorem swi : EncodingLength.Statement .swi := rfl
theorem nega : EncodingLength.Statement .nega := rfl
theorem coma : EncodingLength.Statement .coma := rfl
theorem lsra : EncodingLength.Statement .lsra := rfl
theorem rora : EncodingLength.Statement .rora := rfl
theorem asra : EncodingLength.Statement .asra := rfl
theorem asla : EncodingLength.Statement .asla := rfl
theorem rola : EncodingLength.Statement .rola := rfl
theorem deca : EncodingLength.Statement .deca := rfl
theorem inca : EncodingLength.Statement .inca := rfl
theorem tsta : EncodingLength.Statement .tsta := rfl
theorem clra : EncodingLength.Statement .clra := rfl
theorem negb : EncodingLength.Statement .negb := rfl
theorem comb : EncodingLength.Statement .comb := rfl
theorem lsrb : EncodingLength.Statement .lsrb := rfl
theorem rorb : EncodingLength.Statement .rorb := rfl
theorem asrb : EncodingLength.Statement .asrb := rfl
theorem aslb : EncodingLength.Statement .aslb := rfl
theorem rolb : EncodingLength.Statement .rolb := rfl
theorem decb : EncodingLength.Statement .decb := rfl
theorem incb : EncodingLength.Statement .incb := rfl
theorem tstb : EncodingLength.Statement .tstb := rfl
theorem clrb : EncodingLength.Statement .clrb := rfl
theorem negIdx (v : Byte) : EncodingLength.Statement (.negIdx v) := rfl
theorem comIdx (v : Byte) : EncodingLength.Statement (.comIdx v) := rfl
theorem lsrIdx (v : Byte) : EncodingLength.Statement (.lsrIdx v) := rfl
theorem rorIdx (v : Byte) : EncodingLength.Statement (.rorIdx v) := rfl
theorem asrIdx (v : Byte) : EncodingLength.Statement (.asrIdx v) := rfl
theorem aslIdx (v : Byte) : EncodingLength.Statement (.aslIdx v) := rfl
theorem rolIdx (v : Byte) : EncodingLength.Statement (.rolIdx v) := rfl
theorem decIdx (v : Byte) : EncodingLength.Statement (.decIdx v) := rfl
theorem incIdx (v : Byte) : EncodingLength.Statement (.incIdx v) := rfl
theorem tstIdx (v : Byte) : EncodingLength.Statement (.tstIdx v) := rfl
theorem jmpIdx (v : Byte) : EncodingLength.Statement (.jmpIdx v) := rfl
theorem clrIdx (v : Byte) : EncodingLength.Statement (.clrIdx v) := rfl
theorem negExt (v : Word) : EncodingLength.Statement (.negExt v) := rfl
theorem comExt (v : Word) : EncodingLength.Statement (.comExt v) := rfl
theorem lsrExt (v : Word) : EncodingLength.Statement (.lsrExt v) := rfl
theorem rorExt (v : Word) : EncodingLength.Statement (.rorExt v) := rfl
theorem asrExt (v : Word) : EncodingLength.Statement (.asrExt v) := rfl
theorem aslExt (v : Word) : EncodingLength.Statement (.aslExt v) := rfl
theorem rolExt (v : Word) : EncodingLength.Statement (.rolExt v) := rfl
theorem decExt (v : Word) : EncodingLength.Statement (.decExt v) := rfl
theorem incExt (v : Word) : EncodingLength.Statement (.incExt v) := rfl
theorem tstExt (v : Word) : EncodingLength.Statement (.tstExt v) := rfl
theorem jmpExt (v : Word) : EncodingLength.Statement (.jmpExt v) := rfl
theorem clrExt (v : Word) : EncodingLength.Statement (.clrExt v) := rfl
theorem subaImm (v : Byte) : EncodingLength.Statement (.subaImm v) := rfl
theorem cmpaImm (v : Byte) : EncodingLength.Statement (.cmpaImm v) := rfl
theorem sbcaImm (v : Byte) : EncodingLength.Statement (.sbcaImm v) := rfl
theorem andaImm (v : Byte) : EncodingLength.Statement (.andaImm v) := rfl
theorem bitaImm (v : Byte) : EncodingLength.Statement (.bitaImm v) := rfl
theorem ldaaImm (v : Byte) : EncodingLength.Statement (.ldaaImm v) := rfl
theorem eoraImm (v : Byte) : EncodingLength.Statement (.eoraImm v) := rfl
theorem adcaImm (v : Byte) : EncodingLength.Statement (.adcaImm v) := rfl
theorem oraaImm (v : Byte) : EncodingLength.Statement (.oraaImm v) := rfl
theorem addaImm (v : Byte) : EncodingLength.Statement (.addaImm v) := rfl
theorem cpxImm (v : Word) : EncodingLength.Statement (.cpxImm v) := rfl
theorem bsr (v : Byte) : EncodingLength.Statement (.bsr v) := rfl
theorem ldsImm (v : Word) : EncodingLength.Statement (.ldsImm v) := rfl
theorem subaDir (v : Byte) : EncodingLength.Statement (.subaDir v) := rfl
theorem cmpaDir (v : Byte) : EncodingLength.Statement (.cmpaDir v) := rfl
theorem sbcaDir (v : Byte) : EncodingLength.Statement (.sbcaDir v) := rfl
theorem andaDir (v : Byte) : EncodingLength.Statement (.andaDir v) := rfl
theorem bitaDir (v : Byte) : EncodingLength.Statement (.bitaDir v) := rfl
theorem ldaaDir (v : Byte) : EncodingLength.Statement (.ldaaDir v) := rfl
theorem staaDir (v : Byte) : EncodingLength.Statement (.staaDir v) := rfl
theorem eoraDir (v : Byte) : EncodingLength.Statement (.eoraDir v) := rfl
theorem adcaDir (v : Byte) : EncodingLength.Statement (.adcaDir v) := rfl
theorem oraaDir (v : Byte) : EncodingLength.Statement (.oraaDir v) := rfl
theorem addaDir (v : Byte) : EncodingLength.Statement (.addaDir v) := rfl
theorem cpxDir (v : Byte) : EncodingLength.Statement (.cpxDir v) := rfl
theorem ldsDir (v : Byte) : EncodingLength.Statement (.ldsDir v) := rfl
theorem stsDir (v : Byte) : EncodingLength.Statement (.stsDir v) := rfl
theorem subaIdx (v : Byte) : EncodingLength.Statement (.subaIdx v) := rfl
theorem cmpaIdx (v : Byte) : EncodingLength.Statement (.cmpaIdx v) := rfl
theorem sbcaIdx (v : Byte) : EncodingLength.Statement (.sbcaIdx v) := rfl
theorem andaIdx (v : Byte) : EncodingLength.Statement (.andaIdx v) := rfl
theorem bitaIdx (v : Byte) : EncodingLength.Statement (.bitaIdx v) := rfl
theorem ldaaIdx (v : Byte) : EncodingLength.Statement (.ldaaIdx v) := rfl
theorem staaIdx (v : Byte) : EncodingLength.Statement (.staaIdx v) := rfl
theorem eoraIdx (v : Byte) : EncodingLength.Statement (.eoraIdx v) := rfl
theorem adcaIdx (v : Byte) : EncodingLength.Statement (.adcaIdx v) := rfl
theorem oraaIdx (v : Byte) : EncodingLength.Statement (.oraaIdx v) := rfl
theorem addaIdx (v : Byte) : EncodingLength.Statement (.addaIdx v) := rfl
theorem cpxIdx (v : Byte) : EncodingLength.Statement (.cpxIdx v) := rfl
theorem jsrIdx (v : Byte) : EncodingLength.Statement (.jsrIdx v) := rfl
theorem ldsIdx (v : Byte) : EncodingLength.Statement (.ldsIdx v) := rfl
theorem stsIdx (v : Byte) : EncodingLength.Statement (.stsIdx v) := rfl
theorem subaExt (v : Word) : EncodingLength.Statement (.subaExt v) := rfl
theorem cmpaExt (v : Word) : EncodingLength.Statement (.cmpaExt v) := rfl
theorem sbcaExt (v : Word) : EncodingLength.Statement (.sbcaExt v) := rfl
theorem andaExt (v : Word) : EncodingLength.Statement (.andaExt v) := rfl
theorem bitaExt (v : Word) : EncodingLength.Statement (.bitaExt v) := rfl
theorem ldaaExt (v : Word) : EncodingLength.Statement (.ldaaExt v) := rfl
theorem staaExt (v : Word) : EncodingLength.Statement (.staaExt v) := rfl
theorem eoraExt (v : Word) : EncodingLength.Statement (.eoraExt v) := rfl
theorem adcaExt (v : Word) : EncodingLength.Statement (.adcaExt v) := rfl
theorem oraaExt (v : Word) : EncodingLength.Statement (.oraaExt v) := rfl
theorem addaExt (v : Word) : EncodingLength.Statement (.addaExt v) := rfl
theorem cpxExt (v : Word) : EncodingLength.Statement (.cpxExt v) := rfl
theorem jsrExt (v : Word) : EncodingLength.Statement (.jsrExt v) := rfl
theorem ldsExt (v : Word) : EncodingLength.Statement (.ldsExt v) := rfl
theorem stsExt (v : Word) : EncodingLength.Statement (.stsExt v) := rfl
theorem subbImm (v : Byte) : EncodingLength.Statement (.subbImm v) := rfl
theorem cmpbImm (v : Byte) : EncodingLength.Statement (.cmpbImm v) := rfl
theorem sbcbImm (v : Byte) : EncodingLength.Statement (.sbcbImm v) := rfl
theorem andbImm (v : Byte) : EncodingLength.Statement (.andbImm v) := rfl
theorem bitbImm (v : Byte) : EncodingLength.Statement (.bitbImm v) := rfl
theorem ldabImm (v : Byte) : EncodingLength.Statement (.ldabImm v) := rfl
theorem eorbImm (v : Byte) : EncodingLength.Statement (.eorbImm v) := rfl
theorem adcbImm (v : Byte) : EncodingLength.Statement (.adcbImm v) := rfl
theorem orabImm (v : Byte) : EncodingLength.Statement (.orabImm v) := rfl
theorem addbImm (v : Byte) : EncodingLength.Statement (.addbImm v) := rfl
theorem ldxImm (v : Word) : EncodingLength.Statement (.ldxImm v) := rfl
theorem subbDir (v : Byte) : EncodingLength.Statement (.subbDir v) := rfl
theorem cmpbDir (v : Byte) : EncodingLength.Statement (.cmpbDir v) := rfl
theorem sbcbDir (v : Byte) : EncodingLength.Statement (.sbcbDir v) := rfl
theorem andbDir (v : Byte) : EncodingLength.Statement (.andbDir v) := rfl
theorem bitbDir (v : Byte) : EncodingLength.Statement (.bitbDir v) := rfl
theorem ldabDir (v : Byte) : EncodingLength.Statement (.ldabDir v) := rfl
theorem stabDir (v : Byte) : EncodingLength.Statement (.stabDir v) := rfl
theorem eorbDir (v : Byte) : EncodingLength.Statement (.eorbDir v) := rfl
theorem adcbDir (v : Byte) : EncodingLength.Statement (.adcbDir v) := rfl
theorem orabDir (v : Byte) : EncodingLength.Statement (.orabDir v) := rfl
theorem addbDir (v : Byte) : EncodingLength.Statement (.addbDir v) := rfl
theorem ldxDir (v : Byte) : EncodingLength.Statement (.ldxDir v) := rfl
theorem stxDir (v : Byte) : EncodingLength.Statement (.stxDir v) := rfl
theorem subbIdx (v : Byte) : EncodingLength.Statement (.subbIdx v) := rfl
theorem cmpbIdx (v : Byte) : EncodingLength.Statement (.cmpbIdx v) := rfl
theorem sbcbIdx (v : Byte) : EncodingLength.Statement (.sbcbIdx v) := rfl
theorem andbIdx (v : Byte) : EncodingLength.Statement (.andbIdx v) := rfl
theorem bitbIdx (v : Byte) : EncodingLength.Statement (.bitbIdx v) := rfl
theorem ldabIdx (v : Byte) : EncodingLength.Statement (.ldabIdx v) := rfl
theorem stabIdx (v : Byte) : EncodingLength.Statement (.stabIdx v) := rfl
theorem eorbIdx (v : Byte) : EncodingLength.Statement (.eorbIdx v) := rfl
theorem adcbIdx (v : Byte) : EncodingLength.Statement (.adcbIdx v) := rfl
theorem orabIdx (v : Byte) : EncodingLength.Statement (.orabIdx v) := rfl
theorem addbIdx (v : Byte) : EncodingLength.Statement (.addbIdx v) := rfl
theorem ldxIdx (v : Byte) : EncodingLength.Statement (.ldxIdx v) := rfl
theorem stxIdx (v : Byte) : EncodingLength.Statement (.stxIdx v) := rfl
theorem subbExt (v : Word) : EncodingLength.Statement (.subbExt v) := rfl
theorem cmpbExt (v : Word) : EncodingLength.Statement (.cmpbExt v) := rfl
theorem sbcbExt (v : Word) : EncodingLength.Statement (.sbcbExt v) := rfl
theorem andbExt (v : Word) : EncodingLength.Statement (.andbExt v) := rfl
theorem bitbExt (v : Word) : EncodingLength.Statement (.bitbExt v) := rfl
theorem ldabExt (v : Word) : EncodingLength.Statement (.ldabExt v) := rfl
theorem stabExt (v : Word) : EncodingLength.Statement (.stabExt v) := rfl
theorem eorbExt (v : Word) : EncodingLength.Statement (.eorbExt v) := rfl
theorem adcbExt (v : Word) : EncodingLength.Statement (.adcbExt v) := rfl
theorem orabExt (v : Word) : EncodingLength.Statement (.orabExt v) := rfl
theorem addbExt (v : Word) : EncodingLength.Statement (.addbExt v) := rfl
theorem ldxExt (v : Word) : EncodingLength.Statement (.ldxExt v) := rfl
theorem stxExt (v : Word) : EncodingLength.Statement (.stxExt v) := rfl

end EncodingLength

end Sys2Proof.Laws
end

