-- ==== Sys2Proof/Laws/WellFormed.lean ====
section
/-! SUPPORT. The checks of a memory map read as propositions (R60, R87). -/

namespace Sys2Proof

theorem Segment.contains_iff (g : Segment) (a : Word) :
    g.contains a = true ↔ g.base.toNat ≤ a.toNat ∧ a.toNat < g.base.toNat + g.length := by
  unfold Segment.contains Segment.limit
  simp

theorem Segment.fits_iff (g : Segment) : g.fits = true ↔ g.base.toNat + g.length ≤ 65536 := by
  unfold Segment.fits Segment.limit
  simp

theorem Segment.apart_iff (g k : Segment) :
    Segment.apart g k = true ↔
      g.length = 0 ∨ k.length = 0 ∨ g.base.toNat + g.length ≤ k.base.toNat ∨ k.base.toNat + k.length ≤ g.base.toNat := by
  unfold Segment.apart Segment.limit
  simp [or_assoc]

/-- Segments that pass the test of R87 share no address. -/
theorem Segment.not_contains_both {g k : Segment} (h : Segment.apart g k = true) (a : Word) :
    ¬(g.contains a = true ∧ k.contains a = true) := by
  rw [Segment.contains_iff, Segment.contains_iff]
  rw [Segment.apart_iff] at h
  omega

theorem MemMap.wf_iff (m : MemMap) (handlers : List HandlerId) :
    MemMap.wf m handlers = true ↔
      (∀ g ∈ m, g.fits = true) ∧ MemMap.apart m = true ∧ (∀ g ∈ m, g.handled handlers = true) := by
  simp [MemMap.wf, and_assoc]

theorem MemMap.apart_iff (m : MemMap) : MemMap.apart m = true ↔ m.Pairwise fun g k => Segment.apart g k = true := by
  induction m with
  | nil => simp [MemMap.apart]
  | cons g m ih => simp [MemMap.apart, ih]

end Sys2Proof
end

