-- ==== Sys2Proof/Tests/Slice0.lean ====
section
/-! SUPPORT. The model's own tests: the ill-formed maps the checks refuse, the decoding of every opcode byte of the map of
R106, single instructions on the spec's worked examples, and, for every statement with hypotheses, states that meet them. -/

namespace Sys2Proof.Tests

open Sys2Proof Sys2Proof.Machine

/-! The checks of WellFormed, each with a term it refuses (R60, R87, D25). -/

theorem test_wf_refuses_overlap :
    MemMap.wf [{ base := 0x1000#16, length := 0x100, kind := .ram }, { base := 0x10FF#16, length := 1, kind := .rom }] [] =
      false := by decide

theorem test_wf_refuses_past_end :
    MemMap.wf [{ base := 0xFF00#16, length := 0x101, kind := .ram }] [] = false := by decide

theorem test_wf_refuses_missing_handler :
    MemMap.wf [{ base := 0x8000#16, length := 2, kind := .device 1 }] [0, 2] = false := by decide

/-- Segments that touch, one that ends at 65536, one of length 0 inside another, and a Device segment with a handler. -/
theorem test_wf_accepts_edges :
    MemMap.wf
      [{ base := 0x0000#16, length := 0x8000, kind := .ram }, { base := 0x0010#16, length := 0, kind := .rom },
        { base := 0x8000#16, length := 0x10, kind := .device 1 }, { base := 0xFF00#16, length := 0x100, kind := .rom }] [1] =
      true := by decide

theorem test_configure_names_the_reason :
    (match configure [{ base := 0xFFFF#16, length := 2, kind := .ram }] [] State.reset with
      | .fault (.misconfiguration why) => decide (why = .pastEnd)
      | _ => false) = true := by decide

/-- No operand value is ill formed (R110). -/
theorem test_instr_wf : Instr.wf (.ldaaImm 0xFF#8) = true ∧ Instr.wf (.jmpExt 0xFFFF#16) = true := by decide

/-! Decoding, row by row of the opcode map of R106, with operand bytes 0x12 and 0x34: the words written out from the formats
of R104. -/

/-- The instruction that a list of bytes decodes to when nothing is left over. -/
def whole (bytes : List Byte) : Option Instr :=
  match decode bytes with
  | .ok (i, []) => some i
  | _ => none

theorem test_decode_row_0 :
    [
      [0x01#8], [0x06#8], [0x07#8], [0x08#8], [0x09#8], [0x0A#8], [0x0B#8], [0x0C#8], [0x0D#8], [0x0E#8], [0x0F#8]].map whole =
      [
        some (.nop), some (.tap), some (.tpa), some (.inx), some (.dex), some (.clv), some (.sev), some (.clc),
        some (.sec), some (.cli), some (.sei)] := by
  decide

theorem test_decode_row_1 :
    [
      [0x10#8], [0x11#8], [0x16#8], [0x17#8], [0x19#8], [0x1B#8]].map whole =
      [
        some (.sba), some (.cba), some (.tab), some (.tba), some (.daa), some (.aba)] := by
  decide

theorem test_decode_row_2 :
    [
      [0x20#8, 0x12#8], [0x22#8, 0x12#8], [0x23#8, 0x12#8], [0x24#8, 0x12#8], [0x25#8, 0x12#8], [0x26#8, 0x12#8],
      [0x27#8, 0x12#8], [0x28#8, 0x12#8], [0x29#8, 0x12#8], [0x2A#8, 0x12#8], [0x2B#8, 0x12#8], [0x2C#8, 0x12#8],
      [0x2D#8, 0x12#8], [0x2E#8, 0x12#8], [0x2F#8, 0x12#8]].map whole =
      [
        some (.bra 0x12#8), some (.bhi 0x12#8), some (.bls 0x12#8), some (.bcc 0x12#8), some (.bcs 0x12#8),
        some (.bne 0x12#8), some (.beq 0x12#8), some (.bvc 0x12#8), some (.bvs 0x12#8), some (.bpl 0x12#8),
        some (.bmi 0x12#8), some (.bge 0x12#8), some (.blt 0x12#8), some (.bgt 0x12#8), some (.ble 0x12#8)] := by
  decide

theorem test_decode_row_3 :
    [
      [0x30#8], [0x31#8], [0x32#8], [0x33#8], [0x34#8], [0x35#8], [0x36#8], [0x37#8], [0x39#8], [0x3B#8], [0x3E#8],
      [0x3F#8]].map whole =
      [
        some (.tsx), some (.ins), some (.pula), some (.pulb), some (.des), some (.txs), some (.psha), some (.pshb),
        some (.rts), some (.rti), some (.wai), some (.swi)] := by
  decide

theorem test_decode_row_4 :
    [
      [0x40#8], [0x43#8], [0x44#8], [0x46#8], [0x47#8], [0x48#8], [0x49#8], [0x4A#8], [0x4C#8], [0x4D#8], [0x4F#8]].map whole =
      [
        some (.nega), some (.coma), some (.lsra), some (.rora), some (.asra), some (.asla), some (.rola),
        some (.deca), some (.inca), some (.tsta), some (.clra)] := by
  decide

theorem test_decode_row_5 :
    [
      [0x50#8], [0x53#8], [0x54#8], [0x56#8], [0x57#8], [0x58#8], [0x59#8], [0x5A#8], [0x5C#8], [0x5D#8], [0x5F#8]].map whole =
      [
        some (.negb), some (.comb), some (.lsrb), some (.rorb), some (.asrb), some (.aslb), some (.rolb),
        some (.decb), some (.incb), some (.tstb), some (.clrb)] := by
  decide

theorem test_decode_row_6 :
    [
      [0x60#8, 0x12#8], [0x63#8, 0x12#8], [0x64#8, 0x12#8], [0x66#8, 0x12#8], [0x67#8, 0x12#8], [0x68#8, 0x12#8],
      [0x69#8, 0x12#8], [0x6A#8, 0x12#8], [0x6C#8, 0x12#8], [0x6D#8, 0x12#8], [0x6E#8, 0x12#8], [0x6F#8, 0x12#8]].map whole =
      [
        some (.negIdx 0x12#8), some (.comIdx 0x12#8), some (.lsrIdx 0x12#8), some (.rorIdx 0x12#8),
        some (.asrIdx 0x12#8), some (.aslIdx 0x12#8), some (.rolIdx 0x12#8), some (.decIdx 0x12#8),
        some (.incIdx 0x12#8), some (.tstIdx 0x12#8), some (.jmpIdx 0x12#8), some (.clrIdx 0x12#8)] := by
  decide

theorem test_decode_row_7 :
    [
      [0x70#8, 0x12#8, 0x34#8], [0x73#8, 0x12#8, 0x34#8], [0x74#8, 0x12#8, 0x34#8], [0x76#8, 0x12#8, 0x34#8],
      [0x77#8, 0x12#8, 0x34#8], [0x78#8, 0x12#8, 0x34#8], [0x79#8, 0x12#8, 0x34#8], [0x7A#8, 0x12#8, 0x34#8],
      [0x7C#8, 0x12#8, 0x34#8], [0x7D#8, 0x12#8, 0x34#8], [0x7E#8, 0x12#8, 0x34#8], [0x7F#8, 0x12#8, 0x34#8]].map whole =
      [
        some (.negExt 0x1234#16), some (.comExt 0x1234#16), some (.lsrExt 0x1234#16), some (.rorExt 0x1234#16),
        some (.asrExt 0x1234#16), some (.aslExt 0x1234#16), some (.rolExt 0x1234#16), some (.decExt 0x1234#16),
        some (.incExt 0x1234#16), some (.tstExt 0x1234#16), some (.jmpExt 0x1234#16), some (.clrExt 0x1234#16)] := by
  decide

theorem test_decode_row_8 :
    [
      [0x80#8, 0x12#8], [0x81#8, 0x12#8], [0x82#8, 0x12#8], [0x84#8, 0x12#8], [0x85#8, 0x12#8], [0x86#8, 0x12#8],
      [0x88#8, 0x12#8], [0x89#8, 0x12#8], [0x8A#8, 0x12#8], [0x8B#8, 0x12#8], [0x8C#8, 0x12#8, 0x34#8],
      [0x8D#8, 0x12#8], [0x8E#8, 0x12#8, 0x34#8]].map whole =
      [
        some (.subaImm 0x12#8), some (.cmpaImm 0x12#8), some (.sbcaImm 0x12#8), some (.andaImm 0x12#8),
        some (.bitaImm 0x12#8), some (.ldaaImm 0x12#8), some (.eoraImm 0x12#8), some (.adcaImm 0x12#8),
        some (.oraaImm 0x12#8), some (.addaImm 0x12#8), some (.cpxImm 0x1234#16), some (.bsr 0x12#8),
        some (.ldsImm 0x1234#16)] := by
  decide

theorem test_decode_row_9 :
    [
      [0x90#8, 0x12#8], [0x91#8, 0x12#8], [0x92#8, 0x12#8], [0x94#8, 0x12#8], [0x95#8, 0x12#8], [0x96#8, 0x12#8],
      [0x97#8, 0x12#8], [0x98#8, 0x12#8], [0x99#8, 0x12#8], [0x9A#8, 0x12#8], [0x9B#8, 0x12#8], [0x9C#8, 0x12#8],
      [0x9E#8, 0x12#8], [0x9F#8, 0x12#8]].map whole =
      [
        some (.subaDir 0x12#8), some (.cmpaDir 0x12#8), some (.sbcaDir 0x12#8), some (.andaDir 0x12#8),
        some (.bitaDir 0x12#8), some (.ldaaDir 0x12#8), some (.staaDir 0x12#8), some (.eoraDir 0x12#8),
        some (.adcaDir 0x12#8), some (.oraaDir 0x12#8), some (.addaDir 0x12#8), some (.cpxDir 0x12#8),
        some (.ldsDir 0x12#8), some (.stsDir 0x12#8)] := by
  decide

theorem test_decode_row_A :
    [
      [0xA0#8, 0x12#8], [0xA1#8, 0x12#8], [0xA2#8, 0x12#8], [0xA4#8, 0x12#8], [0xA5#8, 0x12#8], [0xA6#8, 0x12#8],
      [0xA7#8, 0x12#8], [0xA8#8, 0x12#8], [0xA9#8, 0x12#8], [0xAA#8, 0x12#8], [0xAB#8, 0x12#8], [0xAC#8, 0x12#8],
      [0xAD#8, 0x12#8], [0xAE#8, 0x12#8], [0xAF#8, 0x12#8]].map whole =
      [
        some (.subaIdx 0x12#8), some (.cmpaIdx 0x12#8), some (.sbcaIdx 0x12#8), some (.andaIdx 0x12#8),
        some (.bitaIdx 0x12#8), some (.ldaaIdx 0x12#8), some (.staaIdx 0x12#8), some (.eoraIdx 0x12#8),
        some (.adcaIdx 0x12#8), some (.oraaIdx 0x12#8), some (.addaIdx 0x12#8), some (.cpxIdx 0x12#8),
        some (.jsrIdx 0x12#8), some (.ldsIdx 0x12#8), some (.stsIdx 0x12#8)] := by
  decide

theorem test_decode_row_B :
    [
      [0xB0#8, 0x12#8, 0x34#8], [0xB1#8, 0x12#8, 0x34#8], [0xB2#8, 0x12#8, 0x34#8], [0xB4#8, 0x12#8, 0x34#8],
      [0xB5#8, 0x12#8, 0x34#8], [0xB6#8, 0x12#8, 0x34#8], [0xB7#8, 0x12#8, 0x34#8], [0xB8#8, 0x12#8, 0x34#8],
      [0xB9#8, 0x12#8, 0x34#8], [0xBA#8, 0x12#8, 0x34#8], [0xBB#8, 0x12#8, 0x34#8], [0xBC#8, 0x12#8, 0x34#8],
      [0xBD#8, 0x12#8, 0x34#8], [0xBE#8, 0x12#8, 0x34#8], [0xBF#8, 0x12#8, 0x34#8]].map whole =
      [
        some (.subaExt 0x1234#16), some (.cmpaExt 0x1234#16), some (.sbcaExt 0x1234#16), some (.andaExt 0x1234#16),
        some (.bitaExt 0x1234#16), some (.ldaaExt 0x1234#16), some (.staaExt 0x1234#16), some (.eoraExt 0x1234#16),
        some (.adcaExt 0x1234#16), some (.oraaExt 0x1234#16), some (.addaExt 0x1234#16), some (.cpxExt 0x1234#16),
        some (.jsrExt 0x1234#16), some (.ldsExt 0x1234#16), some (.stsExt 0x1234#16)] := by
  decide

theorem test_decode_row_C :
    [
      [0xC0#8, 0x12#8], [0xC1#8, 0x12#8], [0xC2#8, 0x12#8], [0xC4#8, 0x12#8], [0xC5#8, 0x12#8], [0xC6#8, 0x12#8],
      [0xC8#8, 0x12#8], [0xC9#8, 0x12#8], [0xCA#8, 0x12#8], [0xCB#8, 0x12#8], [0xCE#8, 0x12#8, 0x34#8]].map whole =
      [
        some (.subbImm 0x12#8), some (.cmpbImm 0x12#8), some (.sbcbImm 0x12#8), some (.andbImm 0x12#8),
        some (.bitbImm 0x12#8), some (.ldabImm 0x12#8), some (.eorbImm 0x12#8), some (.adcbImm 0x12#8),
        some (.orabImm 0x12#8), some (.addbImm 0x12#8), some (.ldxImm 0x1234#16)] := by
  decide

theorem test_decode_row_D :
    [
      [0xD0#8, 0x12#8], [0xD1#8, 0x12#8], [0xD2#8, 0x12#8], [0xD4#8, 0x12#8], [0xD5#8, 0x12#8], [0xD6#8, 0x12#8],
      [0xD7#8, 0x12#8], [0xD8#8, 0x12#8], [0xD9#8, 0x12#8], [0xDA#8, 0x12#8], [0xDB#8, 0x12#8], [0xDE#8, 0x12#8],
      [0xDF#8, 0x12#8]].map whole =
      [
        some (.subbDir 0x12#8), some (.cmpbDir 0x12#8), some (.sbcbDir 0x12#8), some (.andbDir 0x12#8),
        some (.bitbDir 0x12#8), some (.ldabDir 0x12#8), some (.stabDir 0x12#8), some (.eorbDir 0x12#8),
        some (.adcbDir 0x12#8), some (.orabDir 0x12#8), some (.addbDir 0x12#8), some (.ldxDir 0x12#8),
        some (.stxDir 0x12#8)] := by
  decide

theorem test_decode_row_E :
    [
      [0xE0#8, 0x12#8], [0xE1#8, 0x12#8], [0xE2#8, 0x12#8], [0xE4#8, 0x12#8], [0xE5#8, 0x12#8], [0xE6#8, 0x12#8],
      [0xE7#8, 0x12#8], [0xE8#8, 0x12#8], [0xE9#8, 0x12#8], [0xEA#8, 0x12#8], [0xEB#8, 0x12#8], [0xEE#8, 0x12#8],
      [0xEF#8, 0x12#8]].map whole =
      [
        some (.subbIdx 0x12#8), some (.cmpbIdx 0x12#8), some (.sbcbIdx 0x12#8), some (.andbIdx 0x12#8),
        some (.bitbIdx 0x12#8), some (.ldabIdx 0x12#8), some (.stabIdx 0x12#8), some (.eorbIdx 0x12#8),
        some (.adcbIdx 0x12#8), some (.orabIdx 0x12#8), some (.addbIdx 0x12#8), some (.ldxIdx 0x12#8),
        some (.stxIdx 0x12#8)] := by
  decide

theorem test_decode_row_F :
    [
      [0xF0#8, 0x12#8, 0x34#8], [0xF1#8, 0x12#8, 0x34#8], [0xF2#8, 0x12#8, 0x34#8], [0xF4#8, 0x12#8, 0x34#8],
      [0xF5#8, 0x12#8, 0x34#8], [0xF6#8, 0x12#8, 0x34#8], [0xF7#8, 0x12#8, 0x34#8], [0xF8#8, 0x12#8, 0x34#8],
      [0xF9#8, 0x12#8, 0x34#8], [0xFA#8, 0x12#8, 0x34#8], [0xFB#8, 0x12#8, 0x34#8], [0xFE#8, 0x12#8, 0x34#8],
      [0xFF#8, 0x12#8, 0x34#8]].map whole =
      [
        some (.subbExt 0x1234#16), some (.cmpbExt 0x1234#16), some (.sbcbExt 0x1234#16), some (.andbExt 0x1234#16),
        some (.bitbExt 0x1234#16), some (.ldabExt 0x1234#16), some (.stabExt 0x1234#16), some (.eorbExt 0x1234#16),
        some (.adcbExt 0x1234#16), some (.orabExt 0x1234#16), some (.addbExt 0x1234#16), some (.ldxExt 0x1234#16),
        some (.stxExt 0x1234#16)] := by
  decide

/-- A byte with no entry is rejected by name, at both ends of the list of R107, and a cut instruction too. -/
theorem test_decode_rejects :
    (match decode [0x00#8, 0x01#8], decode [0xFD#8], decode [0x86#8], decode [0xBD#8, 0x20#8], decode [] with
      | .error (.noEntry a), .error (.noEntry b), .error (.truncated c), .error (.truncated d), .error .empty =>
        decide ((a, b, c, d) = (0x00#8, 0xFD#8, 0x86#8, 0xBD#8))
      | _, _, _, _, _ => false) = true := by decide

/-- The host's table words: bit 0 is the least significant bit of the first byte. -/
theorem test_decodeTableWord :
    decodeTableWord 8 0x01 = some .nop ∧ decodeTableWord 16 0x8086 = some (.ldaaImm 0x80#8) ∧
      decodeTableWord 24 0x3412CE = some (.ldxImm 0x1234#16) ∧ decodeTableWord 8 0xFF = some (.stxExt 0x0000#16) ∧
      decodeTableWord 8 0x00 = none := by decide

/-! Single instructions on the spec's examples. -/

/-- All RAM, the bytes at 0x1000 and `pc` there, `SP` at 0x01FF, and a budget. -/
def at1000 (bytes : List Byte) : State :=
  { State.reset with
    pc := 0x1000#16, sp := 0x01FF#16, budget := 50, budgetIn := 50
    bus := { Bus.reset with mem := Memory.load [] 0x1000#16 bytes } }

/-- What a turn answers, or the state itself where it stops. -/
def after (s : State) : State :=
  match step s with
  | .next t => t
  | _ => s

/-- R240's example, the source's `ADD8(0x7F, 0x01)`. -/
theorem test_adda : (let t := after { at1000 [0x8B#8, 0x01#8] with a := 0x7F#8 }
    (t.a, t.cc, t.pc, t.budget)) =
      (0x80#8, { h := true, i := true, n := true, z := false, v := true, c := false }, 0x1002#16, 48) := by decide

/-- R241's example. -/
theorem test_adca : (let t := after { at1000 [0x89#8, 0x0F#8] with a := 0x10#8, cc := { Flags.reset with c := true } }
    (t.a, t.cc)) = (0x20#8, { h := true, i := true, n := false, z := false, v := false, c := false }) := by decide

/-- R245's example. -/
theorem test_sba : (let t := after { at1000 [0x10#8] with a := 0x05#8, b := 0x06#8 }
    (t.a, t.b, t.cc.n, t.cc.c, t.cc.v, t.cc.z)) = (0xFF#8, 0x06#8, true, true, false, false) := by decide

/-- R246's example: the P6800 carry polarity. -/
theorem test_cmpa : (let t := after { at1000 [0x81#8, 0x20#8] with a := 0x10#8 }
    (t.a, t.cc.c, t.cc.z, t.cc.n, t.cc.v)) = (0x10#8, true, false, true, false) := by decide

/-- R177's example `DAA8(0x9A, 0, 0)`. -/
theorem test_daa : (let t := after { at1000 [0x19#8] with a := 0x9A#8 }
    (t.a, t.cc.c, t.cc.z)) = (0x00#8, true, true) := by decide

/-- R249's example: memory read, changed, written. -/
theorem test_inc : (let s := at1000 [0x7C#8, 0x20#8, 0x00#8]
    let t := after { s with bus := s.bus.write 0x2000#16 0xFF#8 }
    (t.bus.mem.read 0x2000#16, t.cc.z, t.cc.n, t.cc.v, t.budget)) = (0x00#8, true, false, false, 44) := by decide

/-- R208's example: high byte at the lower address. -/
theorem test_stx : (let t := after { at1000 [0xFF#8, 0x20#8, 0x00#8] with x := 0xABCD#16 }
    (t.bus.mem.read 0x2000#16, t.bus.mem.read 0x2001#16, t.cc.n, t.budget)) = (0xAB#8, 0xCD#8, true, 44) := by decide

/-- R145: a sum above 0xFFFF wraps; the offset is unsigned. -/
theorem test_ldaa_indexed_wraps : (let s := { at1000 [0xA6#8, 0xFF#8] with x := 0xFFFF#16 }
    let t := after { s with bus := s.bus.write 0x00FE#16 0x5A#8 }
    (t.a, t.budget)) = (0x5A#8, 45) := by decide

/-- R206's corner case: direct mode at 0xFF reads 0x00FF and 0x0100. -/
theorem test_ldx_direct_edge : (let s := at1000 [0xDE#8, 0xFF#8]
    let t := after { s with bus := (s.bus.write 0x00FF#16 0x12#8).write 0x0100#16 0x34#8 }
    t.x) = 0x1234#16 := by decide

/-- R288's example. -/
theorem test_rola : (let t := after { at1000 [0x49#8] with a := 0x80#8, cc := { Flags.reset with c := true } }
    (t.a, t.cc.c, t.cc.n, t.cc.z, t.cc.v)) = (0x01#8, true, false, false, true) := by decide

/-- R320's example: a backward branch. -/
theorem test_bpl : (after (at1000 [0x2A#8, 0x80#8])).pc = 0x0F82#16 := by decide

/-- R326's example. -/
theorem test_bsr : (let t := after (at1000 [0x8D#8, 0x10#8])
    (t.bus.mem.read 0x01FF#16, t.bus.mem.read 0x01FE#16, t.sp, t.pc, t.budget)) =
      (0x02#8, 0x10#8, 0x01FD#16, 0x1012#16, 42) := by decide

/-- The state of R340's example. -/
def swiExample : State :=
  let s := at1000 [0x3F#8]
  { s with
    x := 0x1234#16, a := 0x56#8, b := 0x78#8
    cc := { h := false, i := false, n := false, z := true, v := false, c := false }
    bus := s.bus.write 0xFFFA#16 0x30#8 }

/-- R340's example: the frame. -/
theorem test_swi_frame : (let m := (after swiExample).bus.mem
    [m.read 0x01FF#16, m.read 0x01FE#16, m.read 0x01FD#16, m.read 0x01FC#16, m.read 0x01FB#16, m.read 0x01FA#16,
      m.read 0x01F9#16]) = [0x01#8, 0x10#8, 0x34#8, 0x12#8, 0x56#8, 0x78#8, 0xC4#8] := by decide

/-- R340's example: the registers. -/
theorem test_swi : (let t := after swiExample
    (t.sp, t.cc.i, t.cc.z, t.pc, t.budget)) = (0x01F8#16, true, true, 0x3000#16, 38) := by decide

/-- R341's example: from a frame as R340's example leaves it. -/
theorem test_rti : (let s := { at1000 [0x3B#8] with sp := 0x01F8#16 }
    let t := after { s with bus := { s.bus with
      mem := Memory.load s.bus.mem 0x01F9#16 [0xC4#8, 0x78#8, 0x56#8, 0x12#8, 0x34#8, 0x10#8, 0x01#8] } }
    (t.b, t.a, t.x, t.pc, t.cc.i, t.cc.z, t.sp)) =
      (0x78#8, 0x56#8, 0x1234#16, 0x1001#16, false, true, 0x01FF#16) := by decide

/-- R342's example: nothing pending. -/
theorem test_wai_idle : (let t := after (at1000 [0x3E#8])
    (t.pc, t.budget, t.stop, ended t)) = (0x1000#16, 0, .wait, true) := by decide

/-- R342's case (c): a masked IRQ lets `WAI` fall through. -/
theorem test_wai_masked_irq : (let t := after { at1000 [0x3E#8, 0x01#8] with pend := { nmi := false, irq := true } }
    (t.pc, t.budget, t.pend.irq, t.loop)) = (0x1001#16, 41, true, .afterWait) := by decide

/-- R137: the byte 0x00, one past it, budget 0. -/
theorem test_illegal_opcode : (let t := after (at1000 [0x00#8])
    (t.pc, t.budget, t.stop)) = (0x1001#16, 0, .illegalOpcode) := by decide

/-- R361: with both pending the NMI is taken first and the IRQ stays; the frame's `pc` is the interrupted address. -/
theorem test_nmi_before_irq : (let s := at1000 [0x01#8]
    let t := arbitrate 12 { s with pend := { nmi := true, irq := true }, cc := { s.cc with i := false } }
    (t.pend, t.cc.i, t.sp, t.budget, t.bus.mem.read 0x01FF#16, t.bus.mem.read 0x01FE#16)) =
      ({ nmi := false, irq := true }, true, 0x01F8#16, 38, 0x00#8, 0x10#8) := by decide

/-- The word an entry of the table is placed with runs as the first instruction after reset. -/
theorem test_withFetchWord : (let t := after (State.reset.withFetchWord 24 0x3412CE)
    (t.x, t.pc, t.budget)) = (0x1234#16, 0x0003#16, -2) := by decide

/-- R383: a host step with a budget of 1 runs one instruction, and its result is the instruction's cost (R139). -/
theorem test_one_instruction_step :
    ((stepTransaction 2 0b00#2 1 (at1000 [0x01#8, 0x01#8])).map fun r => (r.1, r.2.pc, r.2.stop)) =
      some (2, 0x1001#16, .budgetExhausted) := by decide

/-! Witnesses: for each statement with hypotheses, a state and operands that meet them together. -/

/-- RAM, ROM, a device, and nothing above. -/
def mixed : Bus :=
  { mem := [(0x0100, 0xAA#8)]
    map := [{ base := 0x0000#16, length := 0x100, kind := .ram }, { base := 0x0100#16, length := 0x100, kind := .rom },
      { base := 0x0200#16, length := 0x100, kind := .device 7 }]
    handlers := [7]
    dev := 0 }

theorem test_witness_DecodeInvertsEncode : Instr.wf (.stsExt 0xFFFF#16) = true := by decide

theorem test_witness_EncodeInvertsDecode : decode [0x8E#8, 0x01#8, 0xFF#8] = .ok (.ldsImm 0x01FF#16, []) := rfl

theorem test_witness_IllegalBytesHaveNoEntry :
    [0x00#8, 0x15#8, 0x87#8, 0xFD#8].all (fun b => (optable b).isNone) = true ∧ (optable 0x01#8).isSome = true ∧
      (optable 0xFF#8).isSome = true := by decide

theorem test_witness_RoutedByteAccess :
    [0x0000#16, 0x00FF#16, 0x0100#16, 0x01FF#16, 0x0200#16, 0x02FF#16, 0x0300#16, 0xFFFF#16].map (resolve mixed.map) =
      [some .ram, some .ram, some .rom, some .rom, some (.device 7), some (.device 7), none, none] := by decide

/-- What a handler may leave behind: its map kept or taken away, and two writes to one byte. -/
def effect (map : MemMap) : DeviceEffect :=
  { dev := 5, map := map, handlers := [7], writes := [(0x0100#16, 0x01#8), (0x0100#16, 0x02#8)] }

/-- A legal map is taken, one with two segments on one address is refused, and the later write stands. -/
theorem test_witness_RoutedByteAccess_absorb :
    MemMap.wf wholeRam [7] = true ∧ MemMap.wf (wholeRam ++ wholeRam) [7] = false ∧
      (mixed.absorb (effect wholeRam)).map = wholeRam ∧ (mixed.absorb (effect (wholeRam ++ wholeRam))).map = mixed.map ∧
      (mixed.absorb (effect wholeRam)).mem.read 0x0100#16 = 0x02#8 := by decide

theorem test_witness_ReadAfterRoutedWrite :
    resolve mixed.map 0x00FF#16 = some .ram ∧ resolve mixed.map 0x0100#16 = some .rom ∧ mixed.plain 0x00FF#16 = true ∧
      mixed.plain 0x0100#16 = true ∧ 0x0100#16 ≠ 0x00FF#16 := by decide

theorem test_witness_ResolveIsTheOnlyMatch :
    MemMap.wf mixed.map mixed.handlers = true ∧ resolve mixed.map 0x01FF#16 = some .rom := by decide

theorem test_witness_WordAccess :
    State.reset.ramAt 0xFFFF#16 = true ∧ State.reset.ramAt (0xFFFF#16 + 1#16) = true := by decide

theorem test_witness_MisconfigurationIsRejected :
    MemMap.wf mixed.map [7] = true ∧ MemMap.wf mixed.map [] = false := by decide

theorem test_witness_StepRunsTheDecodedInstruction :
    Instr.wf (.ldaaImm 0x80#8) = true ∧ (at1000 [0x86#8, 0x80#8]).storesAt 0x1000#16 (encode (.ldaaImm 0x80#8)) ∧
      ended (at1000 [0x86#8, 0x80#8]) = false ∧ serviceable (at1000 [0x86#8, 0x80#8]) = false :=
  ⟨rfl, ⟨Or.inl rfl, rfl, Or.inl rfl, rfl, trivial⟩, by decide, by decide⟩

/-- `LDAA` immediate whose opcode is the last byte of RAM, so that its operand is fetched from an unmapped address (R132). -/
def atEdge : State :=
  let s := at1000 [0x86#8, 0x55#8]
  { s with a := 0xAA#8, bus := { s.bus with map := [{ base := 0x0000#16, length := 0x1001, kind := .ram }] } }

theorem test_witness_StepRunsTheDecodedInstruction_unmapped :
    (atEdge.bus.fetched 0x1000#16 2).1 = encode (.ldaaImm 0x00#8) ∧ resolve atEdge.bus.map 0x1001#16 = none ∧
      ended atEdge = false ∧ serviceable atEdge = false ∧ (after atEdge).a = 0x00#8 := by decide

/-- An NMI pending whose vector points at a byte. -/
def nmiTo (op : Byte) : State :=
  let s := at1000 [0x00#8]
  { s with
    pend := { nmi := true, irq := false }
    bus := { s.bus with mem := Memory.load (Memory.load s.bus.mem 0xFFFC#16 [0x20#8, 0x00#8]) 0x2000#16 [op] } }

/-- An NMI pending whose vector points at a `NOP`. -/
def nmiWaiting : State := nmiTo 0x01#8

theorem test_witness_ServicedStepRunsTheHandler :
    Instr.wf .nop = true ∧ ended nmiWaiting = false ∧ serviceable nmiWaiting = true ∧
      (arbitrate (ackCost nmiWaiting.loop) { nmiWaiting with loop := .top }).pc = 0x2000#16 ∧
      State.storesAt (arbitrate (ackCost nmiWaiting.loop) { nmiWaiting with loop := .top }) 0x2000#16 (encode .nop) :=
  ⟨rfl, by decide, by decide, by decide, ⟨Or.inl (by decide), by decide, trivial⟩⟩

theorem test_witness_IllegalOpcodeHaltsTheStep :
    ended (at1000 [0xFD#8]) = false ∧ serviceable (at1000 [0xFD#8]) = false ∧
      (optable ((at1000 [0xFD#8]).bus.read 0x1000#16).1).isNone = true ∧ (at1000 [0xFD#8]).bus.plain 0x1000#16 = true ∧
      (optable ((at1000 [0x01#8]).bus.read 0x1000#16).1).isSome = true := by
  decide

/-- Step 4 of program P5: an NMI whose handler begins with a byte that has no entry. -/
theorem test_witness_IllegalOpcodeHaltsTheStep_serviced :
    ended (nmiTo 0x00#8) = false ∧ serviceable (nmiTo 0x00#8) = true ∧
      (fun t : State => (t.pc, t.sp, t.cc.i, t.pend, t.budget, t.stop)) (after (nmiTo 0x00#8)) =
        (0x2001#16, 0x01F8#16, true, Pend.none, 0, .illegalOpcode) := by decide

theorem test_witness_IllegalOpcodeHaltsTheStep_unmapped :
    resolve mixed.map 0x0300#16 = none ∧ (optable (mixed.read 0x0300#16).1).isNone = true := by decide

/-- States with the pending bits and the mask given. -/
def pending (nmi irq mask : Bool) : State :=
  { State.reset with pend := { nmi := nmi, irq := irq }, cc := { Flags.reset with i := mask } }

theorem test_witness_ArbiterPriority :
    [pending true true true, pending false true false, pending false true true, pending false false false].map serviceable =
      [true, true, false, false] := by decide

/-- A stack that wraps from 0x0003 to 0xFFFD, and the SWI vector. -/
theorem test_witness_EntryBuildsTheFrame :
    (frameAddrs 0x0003#16).all State.reset.ramAt = true ∧
      State.reset.plainAt [0xFFFA#16, 0xFFFA#16 + 1#16] = true := by decide

theorem test_witness_DecimalAdditionIsCorrect : isBcd 0x99#8 = true ∧ isBcd 0x00#8 = true := by decide

theorem test_witness_CallThenReturn :
    State.reset.ramAt 0x0000#16 = true ∧ State.reset.ramAt (0x0000#16 - 1#16) = true := by decide

theorem test_witness_ReturnUndoesEntry :
    (frameAddrs 0x01FF#16).all (at1000 []).ramAt = true ∧
      (at1000 []).plainAt [0xFFF8#16, 0xFFF8#16 + 1#16] = true := by decide

theorem test_witness_WaitForInterrupt :
    (pending false false true).pend = { nmi := false, irq := false } ∧
      (pending false true true).pend ≠ { nmi := false, irq := false } := by decide

theorem test_witness_FlagInstructions :
    (∃ t, exec .cli (pending false true true) = .next t) ∧ (∃ t, exec .sei (pending true true false) = .next t) :=
  ⟨⟨_, rfl⟩, ⟨_, rfl⟩⟩

theorem test_witness_ReturnFromInterrupt : ∃ t, exec .rti (pending false true true) = .next t := ⟨_, rfl⟩

theorem test_witness_StepKeepsWellFormed : swiExample.wf = true ∧ ∃ t, step swiExample = .next t :=
  ⟨by decide, ⟨_, rfl⟩⟩

/-- States in order before a step, after each halt and after a `WAI`, and one that is not. -/
theorem test_witness_StepKeepsWellFormed_control :
    State.controlWf (beginStep 0b11#2 50 State.reset) = true ∧ (beginStep 0b11#2 50 State.reset).stop ≠ .none ∧
      [at1000 [0x00#8], at1000 [0x3E#8], { at1000 [0x3E#8] with pend := { nmi := false, irq := true } }].map
        (fun s => (s.controlWf, (after s).controlWf, (after s).stop, (after s).loop)) =
        [(true, true, .illegalOpcode, .top), (true, true, .wait, .top), (true, true, .none, .afterWait)] ∧
      State.controlWf { State.reset with stop := .wait, budget := 1 } = false := by decide

theorem test_witness_FlagWriters :
    (∃ t, exec .inx State.reset = .next t) ∧ writesH .inx = false ∧ writesI .inx = false ∧ writesN .inx = false ∧
      writesZ .clc = false ∧ writesV .inx = false ∧ writesC .inx = false ∧ (∃ t, exec .clc State.reset = .next t) :=
  ⟨⟨_, rfl⟩, rfl, rfl, rfl, rfl, rfl, rfl, ⟨_, rfl⟩⟩

theorem test_witness_RegisterWriters :
    (∃ t, exec (.staaExt 0xFFFF#16) State.reset = .next t) ∧ writesA (.staaExt 0xFFFF#16) = false ∧
      writesB (.staaExt 0xFFFF#16) = false ∧ writesX (.staaExt 0xFFFF#16) = false ∧ writesSp (.staaExt 0xFFFF#16) = false :=
  ⟨⟨_, rfl⟩, rfl, rfl, rfl, rfl⟩

/-- A 16-bit store at 0xFFFF, whose second byte is at 0x0000. -/
theorem test_witness_MemoryFrame :
    (∃ t, exec (.stxExt 0xFFFF#16) State.reset = .next t) ∧
      State.reset.plainAt (accessedAt (.stxExt 0xFFFF#16) State.reset) = true ∧
      0x0001#16 ∉ storedAt (.stxExt 0xFFFF#16) State.reset ∧ State.reset.bus.plain 0x0001#16 = true :=
  ⟨⟨_, rfl⟩, by decide, by decide, by decide⟩

theorem test_witness_PendingLatchIsUntouched : (∃ t, exec .swi State.reset = .next t) ∧ Instr.swi ≠ .wai :=
  ⟨⟨_, rfl⟩, by decide⟩

theorem test_witness_CostsAreTheTables :
    (∃ t, exec .wai (pending false true true) = .next t) ∧
      (pending false true true).pend ≠ { nmi := false, irq := false } ∧
      (∃ t, exec .wai (pending false false true) = .next t) ∧
      (pending false false true).pend = { nmi := false, irq := false } ∧ (∃ t, exec .nop State.reset = .next t) :=
  ⟨⟨_, rfl⟩, by decide, ⟨_, rfl⟩, rfl, ⟨_, rfl⟩⟩

theorem test_witness_ResetTransaction :
    State.reset.plainAt [0xFFFE#16, 0xFFFF#16] = true ∧ resolve mixed.map 0xFFFE#16 = none ∧
      resolve mixed.map 0xFFFF#16 = none := by decide

/-- One step for each stop reason, and one whose budget is 0. -/
theorem test_witness_StepResultByStopReason :
    ([stepTransaction 1 0b00#2 0 (at1000 [0x01#8]), stepTransaction 1 0b00#2 1 (at1000 [0x01#8]),
      stepTransaction 1 0b00#2 9 (at1000 [0x00#8]), stepTransaction 1 0b00#2 9 (at1000 [0x3E#8])].map fun o =>
        o.map fun r => (r.1, r.2.stop)) =
      [some (0, .budgetExhausted), some (2, .budgetExhausted), some (9, .illegalOpcode), some (9, .wait)] := by decide

/-- The mask's bits: bit 1 is NMI, bit 0 is IRQ (R42). -/
theorem test_pending_mask :
    (beginStep 0b10#2 9 State.reset).pend = { nmi := true, irq := false } ∧
      (beginStep 0b01#2 9 State.reset).pend = { nmi := false, irq := true } ∧
      Pend.mask { nmi := true, irq := false } = 0b10#2 := by decide

/-- Each mask of the statement with a step that ends, and a masked IRQ over two `WAI`s with one that does not. -/
theorem test_witness_StepWithNothingPendingEnds :
    (stepTransaction 3 0b00#2 3 (at1000 [0x01#8, 0x01#8])).isSome = true ∧
      (stepTransaction 3 0b10#2 3 (nmiTo 0x01#8)).isSome = true ∧
      (stepTransaction 3 0b01#2 3 { at1000 [0x01#8] with cc := { Flags.reset with i := false } }).isSome = true ∧
      stepTransaction 2 0b01#2 2 (at1000 [0x3E#8, 0x3E#8]) = none := by decide

end Sys2Proof.Tests
end

section
/-! SUPPORT. The layer the statements about loads, stores, transfers and the stack are proved from: the flag rule of R169 over
the sign bit, the accumulators by name, and what each shape of instruction answers, as one record update. -/

namespace Sys2Proof.Machine

theorem byte_getLsbD_seven (v : Byte) : v.getLsbD 7 = v.msb :=
  (BitVec.msb_eq_getLsbD_last v).symm

/-- The flag rule of an 8-bit load, store or transfer (R169): `N`, `Z` from the byte, `V` cleared, the others kept. -/
theorem Flags.withNzv_mov8 (f : Flags) (v : Byte) :
    f.withNzv (mov8 v) = { f with n := v.msb, z := v == 0#8, v := false } := by
  simp only [Flags.withNzv, mov8, byte_getLsbD_seven]

/-- A decrement modulo 65536, as the addition of 65535 (R215, R257). -/
theorem word_sub_one_eq_ofNat (w : Word) : w - 1#16 = BitVec.ofNat 16 (w.toNat + 65535) := by
  bv_omega

theorem word_add_one_eq_ofNat (w : Word) : w + 1#16 = BitVec.ofNat 16 (w.toNat + 1) := by
  bv_omega

theorem State.acc_eq_byAcc (s : State) (r : Acc) : s.acc r = byAcc r s.a s.b := by
  cases r <;> rfl

theorem State.setAcc_eq_withAcc (s : State) (r : Acc) (v : Byte) : s.setAcc r v = s.withAcc r v := by
  cases r <;> rfl

theorem charge_eq (n : Nat) (s : State) : charge n s = { s with budget := s.budget - n } := rfl

/-- Everything an accumulator operation with a source operand does (R134, R148): the operand is read, then the accumulator and
the flags are written. -/
theorem accOp_eq (op : Byte → Byte → Flags → Byte × Flags) (r : Acc) (src : Src8) (s : State) :
    accOp op r src s =
      let o := op (byAcc r s.a s.b) (sourceByte src s).1 s.cc
      { s.withAcc r o.1 with cc := o.2, bus := (sourceByte src s).2 } := by
  simp only [accOp, operand8_eq, State.acc_eq_byAcc, State.setAcc_eq_withAcc]
  rfl

/-- Everything a store of an accumulator does (R205): one routed write, and the flags of the byte stored. -/
theorem storeAcc_eq (r : Acc) (m : MemMode) (s : State) :
    storeAcc r m s =
      { s with
        cc := s.cc.withNzv (mov8 (byAcc r s.a s.b)), bus := s.bus.write (ea m s) (byAcc r s.a s.b) } := by
  simp only [storeAcc, memWrite_eq, State.acc_eq_byAcc]
  rfl

/-- Everything a push of an accumulator does (R200, R216). -/
theorem pushAcc_eq (r : Acc) (s : State) :
    pushAcc r s = { s with sp := s.sp - 1#16, bus := s.bus.write s.sp (byAcc r s.a s.b) } := by
  rw [pushAcc, push8_eq, State.acc_eq_byAcc]

/-- Everything a pull of an accumulator does (R201, R217). -/
theorem pullAcc_eq (r : Acc) (s : State) :
    pullAcc r s =
      { s.withAcc r (s.bus.read (s.sp + 1#16)).1 with
        sp := s.sp + 1#16, bus := (s.bus.read (s.sp + 1#16)).2 } := by
  simp only [pullAcc, pull8_eq, State.setAcc_eq_withAcc]
  rfl

end Sys2Proof.Machine
end

section
/-! The 8-bit loads and stores (R204, R205), the transfers between accumulators (R210, R211), and the stack pointer and the
stack (R214 to R217, R256, R257): the bytes and the meaning of each family, then the statements. -/

namespace Sys2Proof.Machine

/-- The opcode bytes of LDAA and LDAB (R204). -/
theorem encode_lda (r : Acc) (src : Src8) :
    encode (Form.lda r src) = srcBytes (byAcc r 0x86#8 0xC6#8) (byAcc r 0x96#8 0xD6#8) (byAcc r 0xA6#8 0xE6#8)
      (byAcc r 0xB6#8 0xF6#8) src := by
  fun_cases Form.lda r src <;> rfl

/-- Each form of LDAA and LDAB is the one load operation, charged the cost of its operand form (R204). -/
theorem exec_lda (r : Acc) (src : Src8) (s : State) :
    exec (Form.lda r src) s = .next (charge (srcCost src) (accOp aluLda r src s)) := by
  fun_cases Form.lda r src <;> rfl

/-- The opcode bytes of STAA and STAB (R205). -/
theorem encode_sta (r : Acc) (m : MemMode) :
    encode (Form.sta r m) = memBytes (byAcc r 0x97#8 0xD7#8) (byAcc r 0xA7#8 0xE7#8) (byAcc r 0xB7#8 0xF7#8) m := by
  fun_cases Form.sta r m <;> rfl

/-- Each form of STAA and STAB is the one store operation, charged the cost of its addressing mode (R205). -/
theorem exec_sta (r : Acc) (m : MemMode) (s : State) :
    exec (Form.sta r m) s = .next (charge (storeCost m) (storeAcc r m s)) := by
  fun_cases Form.sta r m <;> rfl

theorem encode_psh (r : Acc) : encode (Form.psh r) = [byAcc r 0x36#8 0x37#8] := by
  cases r <;> rfl

theorem encode_pul (r : Acc) : encode (Form.pul r) = [byAcc r 0x32#8 0x33#8] := by
  cases r <;> rfl

theorem exec_psh (r : Acc) (s : State) : exec (Form.psh r) s = .next (charge 4 (pushAcc r s)) := by
  cases r <;> rfl

theorem exec_pul (r : Acc) (s : State) : exec (Form.pul r) s = .next (charge 4 (pullAcc r s)) := by
  cases r <;> rfl

theorem exec_tab (s : State) : exec .tab s = .next (charge 2 ((s.setB s.a).setCc (s.cc.withNzv (mov8 s.a)))) := rfl

theorem exec_tba (s : State) : exec .tba s = .next (charge 2 ((s.setA s.b).setCc (s.cc.withNzv (mov8 s.b)))) := rfl

theorem exec_tsx (s : State) : exec .tsx s = .next (charge 4 (s.setX (s.sp + 1#16))) := rfl

theorem exec_txs (s : State) : exec .txs s = .next (charge 4 (s.setSp (s.x - 1#16))) := rfl

theorem exec_ins (s : State) : exec .ins s = .next (charge 4 (s.setSp (s.sp + 1#16))) := rfl

theorem exec_des (s : State) : exec .des s = .next (charge 4 (s.setSp (s.sp - 1#16))) := rfl

/-- Settles O17: every form is one load of the operand, whose flags are those of R169. -/
theorem loadAccumulator : Obligations.LoadAccumulator := by
  intro r src s
  refine ⟨encode_lda r src, ?_⟩
  rw [exec_lda, accOp_eq, charge_eq]
  simp only [aluLda, Flags.withNzv_mov8]
  rfl

/-- Settles O18: every form is one routed write, and the flags are those of the byte written, whatever the write does. -/
theorem storeAccumulator : Obligations.StoreAccumulator := by
  intro r m s
  refine ⟨encode_sta r m, ?_⟩
  simp only [exec_sta, storeAcc_eq, charge_eq, Flags.withNzv_mov8]

/-- Settles O21: the byte copied gives the flags of R169. -/
theorem transferAccumulators : Obligations.TransferAccumulators := by
  intro s
  refine ⟨rfl, rfl, ?_, ?_⟩
  · simp only [exec_tab, Flags.withNzv_mov8, charge_eq, State.setB, State.setCc, Nat.cast_ofNat]
  · simp only [exec_tba, Flags.withNzv_mov8, charge_eq, State.setA, State.setCc, Nat.cast_ofNat]

/-- Settles O23: one more and one less modulo 65536, with no flag written. -/
theorem stackPointerTransfers : Obligations.StackPointerTransfers := by
  intro s
  refine ⟨rfl, rfl, rfl, rfl, ?_, ?_, ?_, ?_⟩
  · simp only [exec_tsx, word_add_one_eq_ofNat, charge_eq, State.setX, Nat.cast_ofNat]
  · simp only [exec_txs, word_sub_one_eq_ofNat, charge_eq, State.setSp, Nat.cast_ofNat]
  · simp only [exec_ins, word_add_one_eq_ofNat, charge_eq, State.setSp, Nat.cast_ofNat]
  · simp only [exec_des, word_sub_one_eq_ofNat, charge_eq, State.setSp, Nat.cast_ofNat]

/-- Settles O24: a push is one routed write at `SP`, a pull is one routed read above it, and neither touches the flags. -/
theorem pushAndPullAccumulator : Obligations.PushAndPullAccumulator := by
  intro r s
  refine ⟨encode_psh r, encode_pul r, ?_, ?_⟩
  · rw [exec_psh, pushAcc_eq, charge_eq]
    rfl
  · rw [exec_pul, pullAcc_eq, charge_eq]
    rfl

end Sys2Proof.Machine
end

section
/-! SUPPORT. The layer the statements about arithmetic are proved from: each ALU operation in the arithmetic terms of the
claims, and each shape of instruction that uses one as a single record update. -/

namespace Sys2Proof.Machine

theorem aluAdd_eq (a m : Byte) (f : Flags) : aluAdd a m f = sumFlags f a m false :=
  add8_eq_sumFlags f a m false

theorem aluAdc_eq (a m : Byte) (f : Flags) : aluAdc a m f = sumFlags f a m f.c :=
  add8_eq_sumFlags f a m f.c

theorem aluSub_eq (a m : Byte) (f : Flags) : aluSub a m f = differenceFlags f a m false :=
  sub8_eq_differenceFlags f a m false

theorem aluSbc_eq (a m : Byte) (f : Flags) : aluSbc a m f = differenceFlags f a m f.c :=
  sub8_eq_differenceFlags f a m f.c

/-- A compare keeps the flags of the subtraction and drops its result (R166). -/
theorem testCmp_eq (a m : Byte) (f : Flags) : testCmp a m f = (differenceFlags f a m false).2 :=
  congrArg Prod.snd (sub8_eq_differenceFlags f a m false)

/-- A negation overflows for -128 alone, whose negative no byte holds (R180). -/
theorem overflows8_neg_iff (v : Byte) : overflows8 (-v.toInt) = (v == 0x80#8) := by
  have hv := v.isLt
  rw [overflows8, byte_toInt, beq_eq_decide, decide_eq_decide, ← BitVec.toNat_inj, BitVec.toNat_ofNat]
  split <;> omega

/-- Subtracting from 0 borrows unless it subtracts 0 (R180). -/
theorem borrow_from_zero (v : Byte) : decide (0 < v.toNat) = (v != 0x00#8) := by
  rw [bne, beq_eq_decide, ← decide_not, decide_eq_decide, ← BitVec.toNat_inj, BitVec.toNat_ofNat]
  omega

/-- NEG is the subtraction from 0 (R180), read as two's complement (R248). -/
theorem unaryNeg_eq (v : Byte) (f : Flags) :
    unaryNeg v f =
      let r := BitVec.ofNat 8 (256 - v.toNat)
      (r, { f with n := r.msb, z := r == 0#8, v := v == 0x80#8, c := v != 0x00#8 }) := by
  have hr : BitVec.ofNat 8 (0 + 512 - v.toNat - 0) = BitVec.ofNat 8 (256 - v.toNat) := by
    have hv := v.isLt
    apply BitVec.eq_of_toNat_eq
    simp only [BitVec.toNat_ofNat]
    omega
  have h : unaryNeg v f = differenceFlags f 0x00#8 v false := sub8_eq_differenceFlags f 0x00#8 v false
  rw [h]
  simp only [differenceFlags, BitVec.toNat_ofNat, Nat.zero_mod, Bool.toNat_false, hr, BitVec.toInt_zero, Nat.cast_zero,
    sub_zero, zero_sub, add_zero, overflows8_neg_iff, borrow_from_zero]

theorem byte_not_eq_ofNat (v : Byte) : ~~~v = BitVec.ofNat 8 (255 - v.toNat) := by
  bv_omega

theorem byte_add_one_eq_ofNat (v : Byte) : v + 1#8 = BitVec.ofNat 8 (v.toNat + 1) := by
  bv_omega

/-- A decrement modulo 256, as the addition of 255 (R179). -/
theorem byte_sub_one_eq_ofNat (v : Byte) : v - 1#8 = BitVec.ofNat 8 (v.toNat + 255) := by
  bv_omega

theorem unaryCom_eq (v : Byte) (f : Flags) :
    unaryCom v f =
      let r := BitVec.ofNat 8 (255 - v.toNat)
      (r, { f with n := r.msb, z := r == 0#8, v := false, c := true }) := by
  simp only [unaryCom, com8, Flags.withNzvc, byte_getLsbD_seven, byte_not_eq_ofNat]

theorem unaryInc_eq (v : Byte) (f : Flags) :
    unaryInc v f =
      let r := BitVec.ofNat 8 (v.toNat + 1)
      (r, { f with n := r.msb, z := r == 0#8, v := v == 0x7F#8 }) := by
  simp only [unaryInc, inc8, Flags.withNzv, byte_getLsbD_seven, byte_add_one_eq_ofNat]

theorem unaryDec_eq (v : Byte) (f : Flags) :
    unaryDec v f =
      let r := BitVec.ofNat 8 (v.toNat + 255)
      (r, { f with n := r.msb, z := r == 0#8, v := v == 0x80#8 }) := by
  simp only [unaryDec, dec8, Flags.withNzv, byte_getLsbD_seven, byte_sub_one_eq_ofNat]

theorem testTst_eq (v : Byte) (f : Flags) :
    testTst v f = { f with n := v.msb, z := v == 0#8, v := false, c := false } := by
  simp only [testTst, tst8, Flags.withNzvc, byte_getLsbD_seven]

/-- Everything a compare with a source operand does (R148, R246): the operand is read and the flags are written. -/
theorem accTest_eq (op : Byte → Byte → Flags → Flags) (r : Acc) (src : Src8) (s : State) :
    accTest op r src s =
      { s with cc := op (byAcc r s.a s.b) (sourceByte src s).1 s.cc, bus := (sourceByte src s).2 } := by
  simp only [accTest, operand8_eq, State.acc_eq_byAcc]
  rfl

/-- A one-operand operation on an accumulator or on memory (R148). -/
def modifyTarget (op : Byte → Flags → Byte × Flags) (t : Target) (s : State) : State :=
  match t with
  | .acc r => modifyAcc op r s
  | .mem m => modifyMem op m.mode s

/-- Everything a one-operand operation does (R148): the operand is read, the result is written back, the flags are written. -/
theorem modifyTarget_eq (op : Byte → Flags → Byte × Flags) (t : Target) (s : State) :
    modifyTarget op t s =
      let o := op (targetByte t s).1 s.cc
      { s.modified t o.1 with cc := o.2 } := by
  cases t with
  | acc r =>
    simp only [modifyTarget, modifyAcc, State.acc_eq_byAcc, State.setAcc_eq_withAcc]
    rfl
  | mem m => rfl

/-- Writing a result back charges nothing (R148). -/
@[simp] theorem State.modified_budget (s : State) (t : Target) (res : Byte) : (s.modified t res).budget = s.budget := by
  cases t <;> rfl

/-- A one-operand operation with its cost, as one record update (R140, R148). -/
theorem charge_modifyTarget (n : Nat) (op : Byte → Flags → Byte × Flags) (t : Target) (s : State) :
    charge n (modifyTarget op t s) =
      let o := op (targetByte t s).1 s.cc
      { s.modified t o.1 with cc := o.2, budget := s.budget - n } := by
  simp only [charge_eq, modifyTarget_eq, State.modified_budget]

/-- A test of an accumulator or of memory (R252). -/
def testTarget (t : Target) (s : State) : State :=
  match t with
  | .acc r => testAcc r s
  | .mem m => testMem m.mode s

/-- Everything a test does (R252): the operand is read and the flags are written. -/
theorem testTarget_eq (t : Target) (s : State) :
    testTarget t s = { s with cc := testTst (targetByte t s).1 s.cc, bus := (targetByte t s).2 } := by
  cases t with
  | acc r =>
    simp only [testTarget, testAcc, State.acc_eq_byAcc]
    rfl
  | mem m => rfl

end Sys2Proof.Machine
end

section
/-! Addition, subtraction and compare (R240 to R247), the one-operand arithmetic and COM (R248 to R250, R252, R284), and the
counting of X (R254, R255): the bytes and the meaning of each family, then the statements. -/

namespace Sys2Proof.Machine

/-- The opcode bytes of ADDA and ADDB (R240). -/
theorem encode_add (r : Acc) (src : Src8) :
    encode (Form.add r src) = srcBytes (byAcc r 0x8B#8 0xCB#8) (byAcc r 0x9B#8 0xDB#8) (byAcc r 0xAB#8 0xEB#8)
      (byAcc r 0xBB#8 0xFB#8) src := by
  fun_cases Form.add r src <;> rfl

/-- Each form of ADDA and ADDB is the one addition, charged the cost of its operand form (R240). -/
theorem exec_add (r : Acc) (src : Src8) (s : State) :
    exec (Form.add r src) s = .next (charge (srcCost src) (accOp aluAdd r src s)) := by
  fun_cases Form.add r src <;> rfl

/-- The opcode bytes of ADCA and ADCB (R241). -/
theorem encode_adc (r : Acc) (src : Src8) :
    encode (Form.adc r src) = srcBytes (byAcc r 0x89#8 0xC9#8) (byAcc r 0x99#8 0xD9#8) (byAcc r 0xA9#8 0xE9#8)
      (byAcc r 0xB9#8 0xF9#8) src := by
  fun_cases Form.adc r src <;> rfl

/-- Each form of ADCA and ADCB is the one addition with carry, charged the cost of its operand form (R241). -/
theorem exec_adc (r : Acc) (src : Src8) (s : State) :
    exec (Form.adc r src) s = .next (charge (srcCost src) (accOp aluAdc r src s)) := by
  fun_cases Form.adc r src <;> rfl

/-- The opcode bytes of SUBA and SUBB (R243). -/
theorem encode_sub (r : Acc) (src : Src8) :
    encode (Form.sub r src) = srcBytes (byAcc r 0x80#8 0xC0#8) (byAcc r 0x90#8 0xD0#8) (byAcc r 0xA0#8 0xE0#8)
      (byAcc r 0xB0#8 0xF0#8) src := by
  fun_cases Form.sub r src <;> rfl

/-- Each form of SUBA and SUBB is the one subtraction, charged the cost of its operand form (R243). -/
theorem exec_sub (r : Acc) (src : Src8) (s : State) :
    exec (Form.sub r src) s = .next (charge (srcCost src) (accOp aluSub r src s)) := by
  fun_cases Form.sub r src <;> rfl

/-- The opcode bytes of SBCA and SBCB (R244). -/
theorem encode_sbc (r : Acc) (src : Src8) :
    encode (Form.sbc r src) = srcBytes (byAcc r 0x82#8 0xC2#8) (byAcc r 0x92#8 0xD2#8) (byAcc r 0xA2#8 0xE2#8)
      (byAcc r 0xB2#8 0xF2#8) src := by
  fun_cases Form.sbc r src <;> rfl

/-- Each form of SBCA and SBCB is the one subtraction with borrow, charged the cost of its operand form (R244). -/
theorem exec_sbc (r : Acc) (src : Src8) (s : State) :
    exec (Form.sbc r src) s = .next (charge (srcCost src) (accOp aluSbc r src s)) := by
  fun_cases Form.sbc r src <;> rfl

/-- The opcode bytes of CMPA and CMPB (R246). -/
theorem encode_cmp (r : Acc) (src : Src8) :
    encode (Form.cmp r src) = srcBytes (byAcc r 0x81#8 0xC1#8) (byAcc r 0x91#8 0xD1#8) (byAcc r 0xA1#8 0xE1#8)
      (byAcc r 0xB1#8 0xF1#8) src := by
  fun_cases Form.cmp r src <;> rfl

/-- Each form of CMPA and CMPB is the one compare, charged the cost of its operand form (R246). -/
theorem exec_cmp (r : Acc) (src : Src8) (s : State) :
    exec (Form.cmp r src) s = .next (charge (srcCost src) (accTest testCmp r src s)) := by
  fun_cases Form.cmp r src <;> rfl

theorem exec_aba (s : State) : exec .aba s = .next (charge 2 (accOp aluAdd .a (.imm s.b) s)) := rfl

theorem exec_sba (s : State) : exec .sba s = .next (charge 2 (accOp aluSub .a (.imm s.b) s)) := rfl

theorem exec_cba (s : State) : exec .cba s = .next (charge 2 (s.setCc (testCmp s.a s.b s.cc))) := rfl

theorem encode_neg (t : Target) : encode (Form.neg t) = targetBytes 0x40#8 0x50#8 0x60#8 0x70#8 t := by
  fun_cases Form.neg t <;> rfl

/-- Each form of NEG is the one negation, charged the cost of its operand (R248). -/
theorem exec_neg (t : Target) (s : State) :
    exec (Form.neg t) s = .next (charge (targetCost t) (modifyTarget unaryNeg t s)) := by
  fun_cases Form.neg t <;> rfl

theorem encode_com (t : Target) : encode (Form.com t) = targetBytes 0x43#8 0x53#8 0x63#8 0x73#8 t := by
  fun_cases Form.com t <;> rfl

/-- Each form of COM is the one complement, charged the cost of its operand (R284). -/
theorem exec_com (t : Target) (s : State) :
    exec (Form.com t) s = .next (charge (targetCost t) (modifyTarget unaryCom t s)) := by
  fun_cases Form.com t <;> rfl

theorem encode_inc (t : Target) : encode (Form.inc t) = targetBytes 0x4C#8 0x5C#8 0x6C#8 0x7C#8 t := by
  fun_cases Form.inc t <;> rfl

/-- Each form of INC is the one increment, charged the cost of its operand (R249). -/
theorem exec_inc (t : Target) (s : State) :
    exec (Form.inc t) s = .next (charge (targetCost t) (modifyTarget unaryInc t s)) := by
  fun_cases Form.inc t <;> rfl

theorem encode_dec (t : Target) : encode (Form.dec t) = targetBytes 0x4A#8 0x5A#8 0x6A#8 0x7A#8 t := by
  fun_cases Form.dec t <;> rfl

/-- Each form of DEC is the one decrement, charged the cost of its operand (R250). -/
theorem exec_dec (t : Target) (s : State) :
    exec (Form.dec t) s = .next (charge (targetCost t) (modifyTarget unaryDec t s)) := by
  fun_cases Form.dec t <;> rfl

theorem encode_tst (t : Target) : encode (Form.tst t) = targetBytes 0x4D#8 0x5D#8 0x6D#8 0x7D#8 t := by
  fun_cases Form.tst t <;> rfl

/-- Each form of TST is the one test, charged the cost of its operand (R252). -/
theorem exec_tst (t : Target) (s : State) :
    exec (Form.tst t) s = .next (charge (targetCost t) (testTarget t s)) := by
  fun_cases Form.tst t <;> rfl

theorem exec_inx (s : State) :
    exec .inx s = .next (charge 4 ((s.setX (s.x + 1#16)).setCc { s.cc with z := s.x + 1#16 == 0#16 })) := rfl

theorem exec_dex (s : State) :
    exec .dex s = .next (charge 4 ((s.setX (s.x - 1#16)).setCc { s.cc with z := s.x - 1#16 == 0#16 })) := rfl

/-- Settles O26: every form is one addition, whose byte and flags are those of the true sum; ABA adds `B` as an operand
that needs no access. -/
theorem addInstructions : Obligations.AddInstructions := by
  intro r src s
  refine ⟨encode_add r src, encode_adc r src, rfl, ?_, ?_, ?_⟩
  · rw [exec_add, accOp_eq, charge_eq, aluAdd_eq]
    rfl
  · rw [exec_adc, accOp_eq, charge_eq, aluAdc_eq]
    rfl
  · rw [exec_aba, accOp_eq, charge_eq, aluAdd_eq]
    rfl

/-- Settles O27: every form is one subtraction, whose byte and flags are those of the true difference; SBA subtracts `B` as
an operand that needs no access. -/
theorem subtractInstructions : Obligations.SubtractInstructions := by
  intro r src s
  refine ⟨encode_sub r src, encode_sbc r src, rfl, ?_, ?_, ?_⟩
  · rw [exec_sub, accOp_eq, charge_eq, aluSub_eq]
    rfl
  · rw [exec_sbc, accOp_eq, charge_eq, aluSbc_eq]
    rfl
  · rw [exec_sba, accOp_eq, charge_eq, aluSub_eq]
    rfl

/-- Settles O28: a compare is the subtraction with its result dropped. -/
theorem compareInstructions : Obligations.CompareInstructions := by
  intro r src s
  refine ⟨encode_cmp r src, rfl, ?_, ?_⟩
  · rw [exec_cmp, accTest_eq, charge_eq, testCmp_eq]
  · rw [exec_cba, charge_eq, testCmp_eq]
    rfl

/-- Settles O29: both are one operation on the operand, read once and written back once. -/
theorem negateAndComplement : Obligations.NegateAndComplement := by
  intro t s
  refine ⟨encode_neg t, encode_com t, ?_, ?_⟩
  · rw [exec_neg, charge_modifyTarget, unaryNeg_eq]
  · rw [exec_com, charge_modifyTarget, unaryCom_eq]

/-- Settles O30: both are one operation on the operand, and neither returns a carry. -/
theorem incrementAndDecrement : Obligations.IncrementAndDecrement := by
  intro t s
  refine ⟨encode_inc t, encode_dec t, ?_, ?_⟩
  · rw [exec_inc, charge_modifyTarget, unaryInc_eq]
  · rw [exec_dec, charge_modifyTarget, unaryDec_eq]

/-- Settles O31: a test reads its operand and writes flags. -/
theorem testWritesNothing : Obligations.TestWritesNothing := by
  intro t s
  refine ⟨encode_tst t, ?_⟩
  rw [exec_tst, testTarget_eq, charge_eq, testTst_eq]

/-- Settles O35: one more and one less modulo 65536, with `Z` from the new value. -/
theorem countIndex : Obligations.CountIndex := by
  intro s
  refine ⟨rfl, rfl, ?_, ?_⟩
  · simp only [exec_inx, word_add_one_eq_ofNat, charge_eq, State.setX, State.setCc, Nat.cast_ofNat]
  · simp only [exec_dex, word_sub_one_eq_ofNat, charge_eq, State.setX, State.setCc, Nat.cast_ofNat]

end Sys2Proof.Machine
end

section
/-! SUPPORT. The layer the statements about logic and shifts are proved from: the flags of a logical operation are those of a
move of its result, the shifts are rotations with a fixed bit in the place of Carry, and a rotation left is one of nine bits. -/

namespace Sys2Proof.Machine

/-- `LOGIC_CLEARS_H` is off in `P6800`, so a logical operation keeps `H` (R167). -/
theorem Flags.withLogic_eq (f : Flags) (r : Nzv) : f.withLogic r = f.withNzv r := rfl

/-- The flags of a logical operation are those of a move of its result (R167, R169). -/
theorem Flags.withLogic_mov8 (f : Flags) (v : Byte) :
    f.withLogic (mov8 v) = { f with n := v.msb, z := v == 0#8, v := false } := by
  rw [Flags.withLogic_eq, Flags.withNzv_mov8]

theorem aluAnd_eq (a m : Byte) (f : Flags) :
    aluAnd a m f = (a &&& m, { f with n := (a &&& m).msb, z := a &&& m == 0#8, v := false }) :=
  congrArg (Prod.mk _) (f.withLogic_mov8 (a &&& m))

theorem aluOra_eq (a m : Byte) (f : Flags) :
    aluOra a m f = (a ||| m, { f with n := (a ||| m).msb, z := a ||| m == 0#8, v := false }) :=
  congrArg (Prod.mk _) (f.withLogic_mov8 (a ||| m))

theorem aluEor_eq (a m : Byte) (f : Flags) :
    aluEor a m f = (a ^^^ m, { f with n := (a ^^^ m).msb, z := a ^^^ m == 0#8, v := false }) :=
  congrArg (Prod.mk _) (f.withLogic_mov8 (a ^^^ m))

/-- In the `P6800` mode of BIT all three flags are of the conjunction, none of the operand (R168). -/
theorem testBit_eq (a m : Byte) (f : Flags) :
    testBit a m f = { f with n := (a &&& m).msb, z := a &&& m == 0#8, v := false } :=
  f.withLogic_mov8 (a &&& m)

/-- Writing the flags of a shift is the flag rule of R172. -/
theorem Flags.withNzvc_shifted (f : Flags) (r : Byte) (out : Bool) : f.withNzvc (shifted r out) = shiftFlags f r out := by
  simp only [Flags.withNzvc, shifted, byte_getLsbD_seven, shiftFlags]

theorem append_eq_ofNat {m n : Nat} (x : BitVec m) (y : BitVec n) :
    x ++ y = BitVec.ofNat (m + n) (x.toNat * 2 ^ n + y.toNat) := by
  apply BitVec.eq_of_toNat_eq
  rw [BitVec.toNat_ofNat, ← Nat.mod_eq_of_lt (x ++ y).isLt, BitVec.toNat_append,
    ← Nat.shiftLeft_add_eq_or_of_lt y.isLt, Nat.shiftLeft_eq]

theorem byte_getLsbD_zero (v : Byte) : v.getLsbD 0 = decide (v.toNat % 2 = 1) := by
  simpa only [pow_zero, Nat.div_one] using getLsbD_eq_decide v 0

/-- A rotation left doubles the byte and adds the Carry (R174). -/
theorem rol8_eq (v : Byte) (cin : Bool) :
    rol8 v cin = shifted (BitVec.ofNat 8 (2 * v.toNat + cin.toNat)) (decide (128 ≤ v.toNat)) := by
  have hresult : v.extractLsb' 0 7 ++ BitVec.ofBool cin = BitVec.ofNat 8 (2 * v.toNat + cin.toNat) := by
    rw [append_eq_ofNat, BitVec.extractLsb'_toNat, BitVec.toNat_ofBool, Nat.shiftRight_zero]
    apply BitVec.eq_of_toNat_eq
    simp only [BitVec.toNat_ofNat]
    omega
  rw [rol8, hresult, byte_getLsbD_seven, byte_msb_eq_decide]

/-- A rotation right halves the byte and puts the Carry at bit 7 (R175). -/
theorem ror8_eq (v : Byte) (cin : Bool) :
    ror8 v cin = shifted (BitVec.ofNat 8 (v.toNat / 2 + 128 * cin.toNat)) (decide (v.toNat % 2 = 1)) := by
  have hresult : BitVec.ofBool cin ++ v.extractLsb' 1 7 = BitVec.ofNat 8 (v.toNat / 2 + 128 * cin.toNat) := by
    have hv := v.isLt
    rw [append_eq_ofNat, BitVec.extractLsb'_toNat, BitVec.toNat_ofBool, Nat.shiftRight_eq_div_pow]
    apply BitVec.eq_of_toNat_eq
    simp only [BitVec.toNat_ofNat]
    omega
  rw [ror8, hresult, byte_getLsbD_zero]

/-- An arithmetic shift left is a rotation that shifts 0 in (R170, R174). -/
theorem asl8_eq_rol8 (v : Byte) : asl8 v = rol8 v false := rfl

/-- A logical shift right is a rotation that shifts 0 in (R173, R175). -/
theorem lsr8_eq_ror8 (v : Byte) : lsr8 v = ror8 v false := rfl

theorem byte_sign_toNat (v : Byte) : (decide (128 ≤ v.toNat)).toNat = v.toNat / 128 := by
  have hv := v.isLt
  by_cases h : 128 ≤ v.toNat
  · rw [decide_eq_true h, Bool.toNat_true]
    omega
  · rw [decide_eq_false h, Bool.toNat_false]
    omega

/-- An arithmetic shift right is a rotation that shifts the sign in (R171, R175). -/
theorem asr8_eq_ror8 (v : Byte) : asr8 v = ror8 v (decide (128 ≤ v.toNat)) := by
  have hsign : v.extractLsb' 7 1 = BitVec.ofBool (decide (128 ≤ v.toNat)) := by
    have hv := v.isLt
    apply BitVec.eq_of_toNat_eq
    rw [BitVec.extractLsb'_toNat, BitVec.toNat_ofBool, byte_sign_toNat, Nat.shiftRight_eq_div_pow]
    omega
  rw [asr8, hsign, ror8]

theorem unaryRol_eq (v : Byte) (f : Flags) :
    unaryRol v f =
      let r := BitVec.ofNat 8 (2 * v.toNat + f.c.toNat)
      (r, shiftFlags f r (decide (128 ≤ v.toNat))) := by
  rw [unaryRol, rol8_eq, Flags.withNzvc_shifted]
  rfl

theorem unaryRor_eq (v : Byte) (f : Flags) :
    unaryRor v f =
      let r := BitVec.ofNat 8 (v.toNat / 2 + 128 * f.c.toNat)
      (r, shiftFlags f r (decide (v.toNat % 2 = 1))) := by
  rw [unaryRor, ror8_eq, Flags.withNzvc_shifted]
  rfl

theorem unaryAsl_eq (v : Byte) (f : Flags) :
    unaryAsl v f =
      let r := BitVec.ofNat 8 (2 * v.toNat)
      (r, shiftFlags f r (decide (128 ≤ v.toNat))) := by
  rw [unaryAsl, asl8_eq_rol8, rol8_eq, Flags.withNzvc_shifted]
  rfl

theorem unaryLsr_eq (v : Byte) (f : Flags) :
    unaryLsr v f =
      let r := BitVec.ofNat 8 (v.toNat / 2)
      (r, shiftFlags f r (decide (v.toNat % 2 = 1))) := by
  rw [unaryLsr, lsr8_eq_ror8, ror8_eq, Flags.withNzvc_shifted]
  rfl

theorem unaryAsr_eq (v : Byte) (f : Flags) :
    unaryAsr v f =
      let r := BitVec.ofNat 8 (v.toNat / 2 + 128 * (v.toNat / 128))
      (r, shiftFlags f r (decide (v.toNat % 2 = 1))) := by
  rw [unaryAsr, asr8_eq_ror8, ror8_eq, byte_sign_toNat, Flags.withNzvc_shifted]
  rfl

/-- Carry and the byte as one word of nine bits, Carry on top (R174). -/
def nineBits (q : Byte × Flags) : BitVec 9 :=
  BitVec.cons q.2.c q.1

theorem nineBits_toNat (q : Byte × Flags) : (nineBits q).toNat = 256 * q.2.c.toNat + q.1.toNat := by
  rw [nineBits, BitVec.toNat_cons', Nat.shiftLeft_eq, Nat.mul_comm]

/-- The nine bits determine the byte and Carry. -/
theorem byte_and_carry_eq_of_nineBits_eq {q u : Byte × Flags} (h : nineBits q = nineBits u) :
    q.1 = u.1 ∧ q.2.c = u.2.c :=
  ⟨by simpa [nineBits] using congrArg (BitVec.setWidth 8) h, by simpa [nineBits] using congrArg BitVec.msb h⟩

/-- A rotation left by one place doubles the low eight bits and brings the top bit down to the bottom. -/
theorem rotateLeft_one_toNat (x : BitVec 9) : (x.rotateLeft 1).toNat = 2 * (x.toNat % 256) + x.toNat / 256 := by
  have hx := x.isLt
  have hrotate : (x.rotateLeft 1).toNat = x.toNat <<< 1 % 2 ^ 9 ||| x.toNat >>> 8 := BitVec.toNat_rotateLeft
  have hlow : x.toNat <<< 1 % 2 ^ 9 = (x.toNat % 256) <<< 1 := by
    simp only [Nat.shiftLeft_eq]
    omega
  have htop : x.toNat >>> 8 = x.toNat / 256 := Nat.shiftRight_eq_div_pow _ _
  rw [hrotate, hlow, htop, ← Nat.shiftLeft_add_eq_or_of_lt (by omega), Nat.shiftLeft_eq, Nat.mul_comm, pow_one]

/-- ROL is a rotation left of the nine bits by one place (R288). -/
theorem nineBits_unaryRol (v : Byte) (f : Flags) : nineBits (unaryRol v f) = (nineBits (v, f)).rotateLeft 1 := by
  have hv := v.isLt
  have hc := f.c.toNat_lt
  have htop : (256 * f.c.toNat + v.toNat) / 256 = f.c.toNat := by omega
  have hlow : (256 * f.c.toNat + v.toNat) % 256 = v.toNat := by omega
  apply BitVec.eq_of_toNat_eq
  simp only [rotateLeft_one_toNat, nineBits_toNat, htop, hlow, unaryRol_eq, shiftFlags, byte_sign_toNat,
    BitVec.toNat_ofNat]
  omega

theorem rotateLeft_zero {w : Nat} (x : BitVec w) : x.rotateLeft 0 = x := by
  ext i hi
  simp [BitVec.getElem_rotateLeft]

theorem rotateLeft_rotateLeft {w : Nat} (x : BitVec w) (m n : Nat) :
    (x.rotateLeft m).rotateLeft n = x.rotateLeft (m + n) := by
  apply BitVec.eq_of_getMsbD_eq
  intro i hi
  have hmod : (m + (n + i) % w) % w = (m + n + i) % w := by
    rw [Nat.add_mod_mod, Nat.add_assoc]
  simp only [BitVec.getMsbD_rotateLeft, Nat.mod_lt _ (Nat.zero_lt_of_lt hi), hi, decide_true, Bool.true_and, hmod]

/-- As many rotations by one place as there are bits restore the word. -/
theorem iterate_rotateLeft_one_width {w : Nat} (x : BitVec w) : (fun y => BitVec.rotateLeft y 1)^[w] x = x := by
  have hiterate : ∀ n, (fun y => BitVec.rotateLeft y 1)^[n] x = x.rotateLeft n := by
    intro n
    induction n with
    | zero => exact (rotateLeft_zero x).symm
    | succ n ih => rw [Function.iterate_succ_apply', ih, rotateLeft_rotateLeft]
  rw [hiterate, ← BitVec.rotateLeft_mod_eq_rotateLeft, Nat.mod_self, rotateLeft_zero]

end Sys2Proof.Machine
end

section
/-! AND, ORA, EOR and BIT (R280 to R283), the shifts (R285 to R287) and the rotates (R288, R289): the bytes and the meaning of
each family, then the statements. -/

namespace Sys2Proof.Machine

/-- The opcode bytes of ANDA and ANDB (R280). -/
theorem encode_and (r : Acc) (src : Src8) :
    encode (Form.and r src) = srcBytes (byAcc r 0x84#8 0xC4#8) (byAcc r 0x94#8 0xD4#8) (byAcc r 0xA4#8 0xE4#8)
      (byAcc r 0xB4#8 0xF4#8) src := by
  fun_cases Form.and r src <;> rfl

/-- Each form of ANDA and ANDB is the one conjunction, charged the cost of its operand form (R280). -/
theorem exec_and (r : Acc) (src : Src8) (s : State) :
    exec (Form.and r src) s = .next (charge (srcCost src) (accOp aluAnd r src s)) := by
  fun_cases Form.and r src <;> rfl

/-- The opcode bytes of ORAA and ORAB (R281). -/
theorem encode_ora (r : Acc) (src : Src8) :
    encode (Form.ora r src) = srcBytes (byAcc r 0x8A#8 0xCA#8) (byAcc r 0x9A#8 0xDA#8) (byAcc r 0xAA#8 0xEA#8)
      (byAcc r 0xBA#8 0xFA#8) src := by
  fun_cases Form.ora r src <;> rfl

/-- Each form of ORAA and ORAB is the one disjunction, charged the cost of its operand form (R281). -/
theorem exec_ora (r : Acc) (src : Src8) (s : State) :
    exec (Form.ora r src) s = .next (charge (srcCost src) (accOp aluOra r src s)) := by
  fun_cases Form.ora r src <;> rfl

/-- The opcode bytes of EORA and EORB (R282). -/
theorem encode_eor (r : Acc) (src : Src8) :
    encode (Form.eor r src) = srcBytes (byAcc r 0x88#8 0xC8#8) (byAcc r 0x98#8 0xD8#8) (byAcc r 0xA8#8 0xE8#8)
      (byAcc r 0xB8#8 0xF8#8) src := by
  fun_cases Form.eor r src <;> rfl

/-- Each form of EORA and EORB is the one exclusive or, charged the cost of its operand form (R282). -/
theorem exec_eor (r : Acc) (src : Src8) (s : State) :
    exec (Form.eor r src) s = .next (charge (srcCost src) (accOp aluEor r src s)) := by
  fun_cases Form.eor r src <;> rfl

/-- The opcode bytes of BITA and BITB (R283). -/
theorem encode_bit (r : Acc) (src : Src8) :
    encode (Form.bit r src) = srcBytes (byAcc r 0x85#8 0xC5#8) (byAcc r 0x95#8 0xD5#8) (byAcc r 0xA5#8 0xE5#8)
      (byAcc r 0xB5#8 0xF5#8) src := by
  fun_cases Form.bit r src <;> rfl

/-- Each form of BITA and BITB is the one test, charged the cost of its operand form (R283). -/
theorem exec_bit (r : Acc) (src : Src8) (s : State) :
    exec (Form.bit r src) s = .next (charge (srcCost src) (accTest testBit r src s)) := by
  fun_cases Form.bit r src <;> rfl

theorem encode_asl (t : Target) : encode (Form.asl t) = targetBytes 0x48#8 0x58#8 0x68#8 0x78#8 t := by
  fun_cases Form.asl t <;> rfl

/-- Each form of ASL is the one shift left, charged the cost of its operand (R285). -/
theorem exec_asl (t : Target) (s : State) :
    exec (Form.asl t) s = .next (charge (targetCost t) (modifyTarget unaryAsl t s)) := by
  fun_cases Form.asl t <;> rfl

theorem encode_asr (t : Target) : encode (Form.asr t) = targetBytes 0x47#8 0x57#8 0x67#8 0x77#8 t := by
  fun_cases Form.asr t <;> rfl

/-- Each form of ASR is the one arithmetic shift right, charged the cost of its operand (R286). -/
theorem exec_asr (t : Target) (s : State) :
    exec (Form.asr t) s = .next (charge (targetCost t) (modifyTarget unaryAsr t s)) := by
  fun_cases Form.asr t <;> rfl

theorem encode_lsr (t : Target) : encode (Form.lsr t) = targetBytes 0x44#8 0x54#8 0x64#8 0x74#8 t := by
  fun_cases Form.lsr t <;> rfl

/-- Each form of LSR is the one logical shift right, charged the cost of its operand (R287). -/
theorem exec_lsr (t : Target) (s : State) :
    exec (Form.lsr t) s = .next (charge (targetCost t) (modifyTarget unaryLsr t s)) := by
  fun_cases Form.lsr t <;> rfl

theorem encode_rol (t : Target) : encode (Form.rol t) = targetBytes 0x49#8 0x59#8 0x69#8 0x79#8 t := by
  fun_cases Form.rol t <;> rfl

/-- Each form of ROL is the one rotation left, charged the cost of its operand (R288). -/
theorem exec_rol (t : Target) (s : State) :
    exec (Form.rol t) s = .next (charge (targetCost t) (modifyTarget unaryRol t s)) := by
  fun_cases Form.rol t <;> rfl

theorem encode_ror (t : Target) : encode (Form.ror t) = targetBytes 0x46#8 0x56#8 0x66#8 0x76#8 t := by
  fun_cases Form.ror t <;> rfl

/-- Each form of ROR is the one rotation right, charged the cost of its operand (R289). -/
theorem exec_ror (t : Target) (s : State) :
    exec (Form.ror t) s = .next (charge (targetCost t) (modifyTarget unaryRor t s)) := by
  fun_cases Form.ror t <;> rfl

/-- Nine ROLs turn the nine bits of Carry and the byte once round (R288). -/
theorem iterate_unaryRol_nine (q : Byte × Flags) :
    nineBits ((fun q : Byte × Flags => unaryRol q.1 q.2)^[9] q) = nineBits q := by
  have hsemi : Function.Semiconj nineBits (fun q : Byte × Flags => unaryRol q.1 q.2) (fun y => y.rotateLeft 1) :=
    fun q => nineBits_unaryRol q.1 q.2
  rw [hsemi.iterate_right 9 q, iterate_rotateLeft_one_width]

/-- Settles O36: every form is one bitwise operation on the operand read, whose flags are those of a move of its result; BIT
writes the flags alone. -/
theorem logicalInstructions : Obligations.LogicalInstructions := by
  intro r src s
  refine ⟨encode_and r src, encode_ora r src, encode_eor r src, encode_bit r src, ?_, ?_, ?_, ?_⟩
  · rw [exec_and, accOp_eq, charge_eq, aluAnd_eq]
    rfl
  · rw [exec_ora, accOp_eq, charge_eq, aluOra_eq]
    rfl
  · rw [exec_eor, accOp_eq, charge_eq, aluEor_eq]
    rfl
  · rw [exec_bit, accTest_eq, charge_eq, testBit_eq]

/-- Settles O37: each is one operation on the operand, a rotation with 0 or the sign in the place of Carry. -/
theorem shiftInstructions : Obligations.ShiftInstructions := by
  intro t s
  refine ⟨encode_asl t, encode_asr t, encode_lsr t, ?_, ?_, ?_⟩
  · rw [exec_asl, charge_modifyTarget, unaryAsl_eq]
  · rw [exec_asr, charge_modifyTarget, unaryAsr_eq]
  · rw [exec_lsr, charge_modifyTarget, unaryLsr_eq]

/-- Settles O38: both are one operation on the operand; nine ROLs turn the nine bits once round, which determines the byte and
Carry. -/
theorem rotateInstructions : Obligations.RotateInstructions := by
  refine ⟨fun t s => ⟨encode_rol t, encode_ror t, ?_, ?_⟩, fun v f => ?_⟩
  · rw [exec_rol, charge_modifyTarget, unaryRol_eq]
  · rw [exec_ror, charge_modifyTarget, unaryRor_eq]
  · exact byte_and_carry_eq_of_nineBits_eq (iterate_unaryRol_nine (v, f))

end Sys2Proof.Machine
end

section
/-! The branches (R310 to R325), the calls (R326, R328), the jump, the return and the no-op (R327, R329, R330): the bytes and the
meaning of each instruction, then the statements. -/

namespace Sys2Proof.Machine

/-- `BRA` is the conditional branch whose condition is true: `BRANCH_TAKEN_EXTRA` is 0 in `P6800`, so being taken costs it
nothing more (R140, R311). -/
theorem exec_bra (rel8 : Byte) (s : State) : exec (.bra rel8) s = .next (s.branched true rel8) :=
  congrArg Host.Outcome.next (condBranch_eq true rel8 s)

theorem exec_bhi (rel8 : Byte) (s : State) : exec (.bhi rel8) s = .next (s.branched (!(s.cc.c || s.cc.z)) rel8) :=
  congrArg Host.Outcome.next (condBranch_eq _ rel8 s)

theorem exec_bls (rel8 : Byte) (s : State) : exec (.bls rel8) s = .next (s.branched (s.cc.c || s.cc.z) rel8) :=
  congrArg Host.Outcome.next (condBranch_eq _ rel8 s)

theorem exec_bcc (rel8 : Byte) (s : State) : exec (.bcc rel8) s = .next (s.branched (!s.cc.c) rel8) :=
  congrArg Host.Outcome.next (condBranch_eq _ rel8 s)

theorem exec_bcs (rel8 : Byte) (s : State) : exec (.bcs rel8) s = .next (s.branched s.cc.c rel8) :=
  congrArg Host.Outcome.next (condBranch_eq _ rel8 s)

theorem exec_bne (rel8 : Byte) (s : State) : exec (.bne rel8) s = .next (s.branched (!s.cc.z) rel8) :=
  congrArg Host.Outcome.next (condBranch_eq _ rel8 s)

theorem exec_beq (rel8 : Byte) (s : State) : exec (.beq rel8) s = .next (s.branched s.cc.z rel8) :=
  congrArg Host.Outcome.next (condBranch_eq _ rel8 s)

theorem exec_bvc (rel8 : Byte) (s : State) : exec (.bvc rel8) s = .next (s.branched (!s.cc.v) rel8) :=
  congrArg Host.Outcome.next (condBranch_eq _ rel8 s)

theorem exec_bvs (rel8 : Byte) (s : State) : exec (.bvs rel8) s = .next (s.branched s.cc.v rel8) :=
  congrArg Host.Outcome.next (condBranch_eq _ rel8 s)

theorem exec_bpl (rel8 : Byte) (s : State) : exec (.bpl rel8) s = .next (s.branched (!s.cc.n) rel8) :=
  congrArg Host.Outcome.next (condBranch_eq _ rel8 s)

theorem exec_bmi (rel8 : Byte) (s : State) : exec (.bmi rel8) s = .next (s.branched s.cc.n rel8) :=
  congrArg Host.Outcome.next (condBranch_eq _ rel8 s)

/-- The model tests that `N xor V` is 0, the statement that the two agree (R322). -/
theorem exec_bge (rel8 : Byte) (s : State) : exec (.bge rel8) s = .next (s.branched (s.cc.n == s.cc.v) rel8) := by
  rw [← Bool.not_not (s.cc.n == s.cc.v)]
  exact congrArg Host.Outcome.next (condBranch_eq _ rel8 s)

theorem exec_blt (rel8 : Byte) (s : State) : exec (.blt rel8) s = .next (s.branched (s.cc.n != s.cc.v) rel8) :=
  congrArg Host.Outcome.next (condBranch_eq _ rel8 s)

theorem exec_bgt (rel8 : Byte) (s : State) :
    exec (.bgt rel8) s = .next (s.branched (!(s.cc.z || (s.cc.n != s.cc.v))) rel8) :=
  congrArg Host.Outcome.next (condBranch_eq _ rel8 s)

theorem exec_ble (rel8 : Byte) (s : State) : exec (.ble rel8) s = .next (s.branched (s.cc.z || (s.cc.n != s.cc.v)) rel8) :=
  congrArg Host.Outcome.next (condBranch_eq _ rel8 s)

/-- The cost of a jump by its form (R327). -/
def jmpCost : IdxExt → Nat
  | .idx _ => 4
  | .ext _ => 3

/-- The cost of a call by its form (R328). -/
def jsrCost : IdxExt → Nat
  | .idx _ => 8
  | .ext _ => 9

theorem encode_jmp (m : IdxExt) : encode (Form.jmp m) = idxExtBytes 0x6E#8 0x7E#8 m := by
  cases m <;> rfl

/-- Each form of JMP goes to its effective address, charged the cost of the form (R327). -/
theorem exec_jmp (m : IdxExt) (s : State) :
    exec (Form.jmp m) s = .next (charge (jmpCost m) (s.setPc (ea m.mode s))) := by
  cases m <;> rfl

theorem encode_jsr (m : IdxExt) : encode (Form.jsr m) = idxExtBytes 0xAD#8 0xBD#8 m := by
  cases m <;> rfl

/-- Each form of JSR is a call of its effective address, charged the cost of the form (R328). -/
theorem exec_jsr (m : IdxExt) (s : State) :
    exec (Form.jsr m) s = .next (charge (jsrCost m) (callTo (ea m.mode s) s)) := by
  cases m <;> rfl

theorem exec_bsr (rel8 : Byte) (s : State) :
    exec (.bsr rel8) s = .next (charge 8 (callTo (branchTarget s.pc rel8) s)) := by
  rw [← relTarget_eq]
  rfl

theorem exec_rts (s : State) : exec .rts s = .next (charge 5 (returnFromCall s)) := rfl

theorem exec_nop (s : State) : exec .nop s = .next (charge 2 s) := rfl

/-- Settles O39: each instruction is the one branch, on its own condition. -/
theorem unsignedBranches : Obligations.UnsignedBranches := by
  intro rel8 s
  exact ⟨rfl, exec_bra rel8 s, exec_bhi rel8 s, exec_bls rel8 s, exec_bcc rel8 s, exec_bcs rel8 s, exec_bne rel8 s,
    exec_beq rel8 s⟩

/-- Settles O40: each instruction is the one branch, on its own condition. -/
theorem signedBranches : Obligations.SignedBranches := by
  intro rel8 s
  exact ⟨rfl, exec_bvc rel8 s, exec_bvs rel8 s, exec_bpl rel8 s, exec_bmi rel8 s, exec_bge rel8 s, exec_blt rel8 s,
    exec_bgt rel8 s, exec_ble rel8 s⟩

/-- Settles O42: all three forms are the one call, which pushes the `pc` that the fetch has moved past the instruction. -/
theorem callsPushTheReturnAddress : Obligations.CallsPushTheReturnAddress := by
  intro rel8 m s
  refine ⟨rfl, encode_jsr m, ?_, ?_⟩
  · rw [exec_bsr, callTo_eq, charge_eq]
    rfl
  · rw [exec_jsr, callTo_eq, charge_eq]
    cases m <;> rfl

/-- Settles O43: a jump writes `pc`, a return pulls it high byte first, and NOP only charges its cost. -/
theorem jumpReturnAndNop : Obligations.JumpReturnAndNop := by
  intro m s
  refine ⟨encode_jmp m, rfl, rfl, ?_, ?_, ?_⟩
  · rw [exec_jmp, charge_eq]
    cases m <;> rfl
  · rw [exec_rts, returnFromCall_eq, charge_eq]
    rfl
  · rw [exec_nop, charge_eq]
    rfl

end Sys2Proof.Machine
end

section
/-! The software interrupt (R340), the return from interrupt (R341) and the flag instructions (R343 to R348): the meaning of each
instruction, which interrupts it leaves serviceable, then the statements. -/

namespace Sys2Proof.Machine

theorem exec_swi (s : State) : exec .swi s = .next (enterInterrupt Config.vecSwi 12 s) := rfl

theorem exec_rti (s : State) : exec .rti s = .next (charge 10 (returnFromInterrupt s)) := rfl

theorem exec_clc (s : State) : exec .clc s = .next (charge 2 (s.setCc { s.cc with c := false })) := rfl

theorem exec_sec (s : State) : exec .sec s = .next (charge 2 (s.setCc { s.cc with c := true })) := rfl

theorem exec_clv (s : State) : exec .clv s = .next (charge 2 (s.setCc { s.cc with v := false })) := rfl

theorem exec_sev (s : State) : exec .sev s = .next (charge 2 (s.setCc { s.cc with v := true })) := rfl

theorem exec_cli (s : State) : exec .cli s = .next (charge 2 (setIMask false s)) := rfl

theorem exec_sei (s : State) : exec .sei s = .next (charge 2 (setIMask true s)) := rfl

/-- A charge does not move what the arbiter looks at (R140, R361). -/
@[simp] theorem serviceable_charge (n : Nat) (s : State) : serviceable (charge n s) = serviceable s := rfl

/-- With the mask written, what is serviceable depends on the latch and the new mask (R361 to R363). -/
@[simp] theorem serviceable_setIMask (v : Bool) (s : State) :
    serviceable (setIMask v s) = (s.pend.nmi || (s.pend.irq && !v)) := rfl

/-- A return from interrupt takes its mask from bit 4 of the flags byte on the stack and keeps the latch (R36, R341). -/
theorem serviceable_returnFromInterrupt (s : State) :
    serviceable (returnFromInterrupt s) =
      (s.pend.nmi || (s.pend.irq && !(s.bus.read (s.sp + 1#16)).1.getLsbD 4)) := by
  rw [returnFromInterrupt_eq]
  rfl

/-- Settles O45: SWI is the one shared entry, with its own vector and cost. -/
theorem softwareInterrupt : Obligations.SoftwareInterrupt := by
  intro s
  refine ⟨rfl, ?_⟩
  rw [exec_swi, enterInterrupt_eq]
  rfl

/-- Settles O46: RTI is the one return, and the mask the arbiter meets next is the pulled one. (The model's operation has the
obligation's own name.) -/
theorem returnFromInterrupt_holds : Obligations.ReturnFromInterrupt := by
  intro s r1 r2 r3 r4 r5
  refine ⟨rfl, ?_, ?_⟩
  · rw [exec_rti, returnFromInterrupt_eq, charge_eq]
    rfl
  · simp only [exec_rti, Host.Outcome.next.injEq, forall_eq', serviceable_charge, serviceable_returnFromInterrupt, r1]

/-- Settles O49: each instruction writes one flag; for CLI and SEI that flag is the mask the arbiter tests next. -/
theorem flagInstructions : Obligations.FlagInstructions := by
  intro s
  refine ⟨rfl, exec_clc s, exec_sec s, exec_clv s, exec_sev s, exec_cli s, exec_sei s, ?_, ?_⟩
  · simp only [exec_cli, Host.Outcome.next.injEq, forall_eq', serviceable_charge, serviceable_setIMask, Bool.not_false,
      Bool.and_true]
  · simp only [exec_sei, Host.Outcome.next.injEq, forall_eq', serviceable_charge, serviceable_setIMask, Bool.not_true,
      Bool.and_false, Bool.or_false]

end Sys2Proof.Machine
end

section
/-! SUPPORT. The layer the statements about the encoding are proved from: a table entry with its operand, the instruction and the
bytes the two make, and that the table and the encoder agree on them (R101, R104, R106). -/

namespace Sys2Proof

/-- The values of the operand a table entry calls for (R104, R105). -/
def Entry.Operand : Entry → Type
  | .inh _ => Unit
  | .byte _ => Byte
  | .word _ => Word

/-- The instruction of an entry with its operand. -/
def Entry.instr : (e : Entry) → e.Operand → Instr
  | .inh i, _ => i
  | .byte f, v => f v
  | .word f, w => f w

/-- The bytes of an opcode whose entry calls for the operand (R104). -/
def Entry.bytes (op : Byte) : (e : Entry) → e.Operand → List Byte
  | .inh _, _ => [op]
  | .byte _, v => [op, v]
  | .word _, w => encodeWord op w

/-- The entry of the opcode, with some operand, is the instruction. -/
def Entry.Provides (op : Byte) (i : Instr) : Prop :=
  ∃ e, ∃ x : e.Operand, optable op = some e ∧ e.instr x = i

/-- The encoder follows the opcode map, row by row (R104, R106). -/
theorem encode_opRows {hi lo : Nat} (hhi : hi < 16) (hlo : lo < 16) {e : Entry}
    (h : (opRows.getD hi []).getD lo none = some e) (x : e.Operand) :
    encode (e.instr x) = e.bytes (BitVec.ofNat 8 (16 * hi + lo)) x := by
  interval_cases hi <;> interval_cases lo <;> cases h <;> rfl

/-- The encoding of an entry's instruction is the entry's opcode and the operand bytes (R104). -/
theorem encode_instr {op : Byte} {e : Entry} (h : optable op = some e) (x : e.Operand) :
    encode (e.instr x) = e.bytes op x := by
  have hop := op.isLt
  rw [encode_opRows (by omega) (by omega) h, Nat.div_add_mod, BitVec.ofNat_toNat, BitVec.setWidth_eq]

theorem Entry.Provides.inh {op : Byte} {i : Instr} (h : optable op = some (.inh i)) : Entry.Provides op i :=
  ⟨.inh i, (), h, rfl⟩

theorem Entry.Provides.byte {op : Byte} {f : Byte → Instr} (h : optable op = some (.byte f)) (v : Byte) :
    Entry.Provides op (f v) :=
  ⟨.byte f, v, h, rfl⟩

theorem Entry.Provides.word {op : Byte} {f : Word → Instr} (h : optable op = some (.word f)) (w : Word) :
    Entry.Provides op (f w) :=
  ⟨.word f, w, h, rfl⟩

/-- The opcode an instruction is encoded with has the table entry the instruction is of (R106). -/
theorem encode_opcode_provides (i : Instr) : Entry.Provides ((encode i).headD 0) i := by
  cases i <;> simp only [encode, encodeWord, List.headD_cons] <;>
    first | exact .inh rfl | exact .byte rfl _ | exact .word rfl _

theorem wordOfBytes_first (b0 b1 : Byte) : firstByte Config.endian (wordOfBytes Config.endian b0 b1) = b0 := by
  have h0 := b0.isLt
  have h1 := b1.isLt
  apply BitVec.eq_of_toNat_eq
  rw [show firstByte Config.endian (wordOfBytes Config.endian b0 b1) = highByte (b0 ++ b1) from rfl, highByte_toNat,
    BitVec.toNat_append, ← Nat.shiftLeft_add_eq_or_of_lt h1, Nat.shiftLeft_eq]
  omega

theorem wordOfBytes_second (b0 b1 : Byte) : secondByte Config.endian (wordOfBytes Config.endian b0 b1) = b1 := by
  have h1 := b1.isLt
  apply BitVec.eq_of_toNat_eq
  rw [show secondByte Config.endian (wordOfBytes Config.endian b0 b1) = lowByte (b0 ++ b1) from rfl, lowByte_toNat,
    BitVec.toNat_append, ← Nat.shiftLeft_add_eq_or_of_lt h1, Nat.shiftLeft_eq]
  omega

/-- The operand bytes of a word are the bytes it was assembled from (R67, R105). -/
theorem encodeWord_wordOfBytes (op b0 b1 : Byte) : encodeWord op (wordOfBytes Config.endian b0 b1) = [op, b0, b1] := by
  rw [encodeWord, wordOfBytes_first, wordOfBytes_second]

/-- The bytes of a table entry with its operand decode to the entry's instruction (R104, R105). -/
theorem decode_bytes {op : Byte} {e : Entry} (h : optable op = some e) (x : e.Operand) (rest : List Byte) :
    decode (e.bytes op x ++ rest) = .ok (e.instr x, rest) := by
  cases e with
  | inh i => simp only [Entry.bytes, Entry.instr, decode, List.cons_append, List.nil_append, h]
  | byte f =>
    simp only [Entry.bytes, decode, List.cons_append, h]
    rfl
  | word f =>
    simp only [Entry.bytes, encodeWord, decode, List.cons_append, List.nil_append, h]
    exact congrArg (fun w => Except.ok (f w, rest)) (wordOfBytes_bytes x)

/-- What the decoder accepts begins with the bytes of a table entry with its operand (R104). -/
theorem decode_eq_ok {bytes rest : List Byte} {i : Instr} (h : decode bytes = .ok (i, rest)) :
    ∃ op e, ∃ x : e.Operand, optable op = some e ∧ e.instr x = i ∧ e.bytes op x ++ rest = bytes := by
  unfold decode at h
  split at h
  · cases h
  · rename_i op more
    split at h
    · cases h
    · cases h
      exact ⟨op, .inh i, (), ‹_›, rfl, rfl⟩
    · split at h
      · rename_i f hop _ v tail
        cases h
        exact ⟨op, .byte f, v, hop, rfl, rfl⟩
      · cases h
    · split at h
      · rename_i f hop _ b0 b1 tail
        cases h
        exact ⟨op, .word f, wordOfBytes Config.endian b0 b1, hop, rfl,
          congrArg (· ++ rest) (encodeWord_wordOfBytes op b0 b1)⟩
      · cases h

/-- The places of the opcode map with no entry, row by row (R107). -/
theorem opRows_eq_none_iff : ∀ hi < 16, ∀ lo < 16,
    ((opRows.getD hi []).getD lo none).isNone = true ↔
      16 * hi + lo ∈ [0x00, 0x02, 0x03, 0x04, 0x05, 0x12, 0x13, 0x14, 0x15, 0x18, 0x1A, 0x1C, 0x1D, 0x1E, 0x1F, 0x21, 0x38,
        0x3A, 0x3C, 0x3D, 0x41, 0x42, 0x45, 0x4B, 0x4E, 0x51, 0x52, 0x55, 0x5B, 0x5E, 0x61, 0x62, 0x65, 0x6B, 0x71, 0x72,
        0x75, 0x7B, 0x83, 0x87, 0x8F, 0x93, 0x9D, 0xA3, 0xB3, 0xC3, 0xC7, 0xCC, 0xCD, 0xCF, 0xD3, 0xDC, 0xDD, 0xE3, 0xEC,
        0xED, 0xF3, 0xFC, 0xFD] := by
  decide

end Sys2Proof
end

section
/-! The decoder and the encoder (R100 to R107): the statements. -/

namespace Sys2Proof.Machine

/-- Settles O2: an instruction is that of a table entry with an operand, and the entry's bytes decode to it. -/
theorem decodeInvertsEncode : Obligations.DecodeInvertsEncode := by
  intro i rest _
  obtain ⟨e, x, hop, rfl⟩ := encode_opcode_provides i
  rw [encode_instr hop, decode_bytes hop]

/-- Settles O3: what the decoder accepts are the bytes of a table entry with an operand, and those are the encoding. -/
theorem encodeInvertsDecode : Obligations.EncodeInvertsDecode := by
  intro bytes rest i h
  obtain ⟨op, e, x, hop, rfl, hbytes⟩ := decode_eq_ok h
  rw [encode_instr hop, hbytes]

/-- Settles O1: each line is one run of the decoder. -/
theorem decodeReadsSpecBytes : Obligations.DecodeReadsSpecBytes := by
  refine ⟨rfl, rfl, rfl, rfl, rfl, rfl, rfl, rfl, rfl, rfl, rfl, rfl, rfl⟩

/-- Settles O4: the list holds the columns that each row of the map leaves free. -/
theorem illegalBytesHaveNoEntry : Obligations.IllegalBytesHaveNoEntry := by
  intro op
  have hop := op.isLt
  refine ⟨?_, fun rest h => ?_⟩
  · rw [optable, ← Option.isNone_iff_eq_none, opRows_eq_none_iff _ (by omega) _ (by omega), Nat.div_add_mod]
  · simp only [decode, h]

end Sys2Proof.Machine
end

section
/-! SUPPORT. The layer the statements about memory are proved from: a word access over routed bytes, RAM addresses, and which
addresses two segments share (R60, R61, R68, R69, R87). -/

namespace Sys2Proof.Machine

theorem readWord_eq (a : Word) (s : State) :
    readWord a s = ((s.bus.readBig a).1, { s with bus := (s.bus.readBig a).2 }) := rfl

theorem writeWord_eq (a w : Word) (s : State) : writeWord a w s = { s with bus := s.bus.writeBig a w } := rfl

theorem State.ramAt_iff (s : State) (a : Word) : s.ramAt a = true ↔ resolve s.bus.map a = some .ram := by
  simp only [State.ramAt, beq_iff_eq]

theorem Bus.read_ram {b : Bus} {a : Word} (h : resolve b.map a = some .ram) : b.read a = (b.mem.read a, b) :=
  Bus.read_of_stored (.inl h)

theorem Bus.write_ram {b : Bus} {a : Word} (h : resolve b.map a = some .ram) (v : Byte) :
    b.write a v = { b with mem := b.mem.write a v } := by
  simp only [Bus.write, h]

/-- The RAM addresses stay the same whatever `mem` holds. -/
theorem Bus.read_mem_ram {b : Bus} {a : Word} (h : resolve b.map a = some .ram) (m : Memory) :
    Bus.read { b with mem := m } a = (m.read a, { b with mem := m }) :=
  Bus.read_ram (b := { b with mem := m }) h

theorem Bus.write_mem_ram {b : Bus} {a : Word} (h : resolve b.map a = some .ram) (m : Memory) (v : Byte) :
    Bus.write { b with mem := m } a v = { b with mem := m.write a v } :=
  Bus.write_ram (b := { b with mem := m }) h v

/-- What a plain address reads depends on the map and on its own byte of `mem` (R63). -/
theorem Bus.read_congr_plain {b c : Bus} {a : Word} (h : b.plain a = true) (hmap : c.map = b.map)
    (hmem : c.mem.read a = b.mem.read a) : (c.read a).1 = (b.read a).1 := by
  rw [Bus.plain_iff] at h
  simp only [Bus.read, hmap]
  split
  · rfl
  · exact hmem
  · exact hmem
  · exact absurd ‹_› (h _)

theorem word_add_one_ne (a : Word) : a + 1#16 ≠ a := by
  bv_omega

/-- A word written over RAM reads back (R70). -/
theorem Bus.readBig_writeBig {b : Bus} {a : Word} (w : Word) (h0 : resolve b.map a = some .ram)
    (h1 : resolve b.map (a + 1#16) = some .ram) :
    (b.writeBig a w).read a = (highByte w, b.writeBig a w) ∧
      (b.writeBig a w).read (a + 1#16) = (lowByte w, b.writeBig a w) ∧
      (b.writeBig a w).readBig a = (w, b.writeBig a w) := by
  have hw : b.writeBig a w = { b with mem := (b.mem.write a (highByte w)).write (a + 1#16) (lowByte w) } := by
    rw [Bus.writeBig, Bus.write_ram h0, Bus.write_mem_ram h1]
  have hhigh : (b.writeBig a w).read a = (highByte w, b.writeBig a w) := by
    rw [hw, Bus.read_mem_ram h0, Memory.read_write_of_ne _ _ (word_add_one_ne a).symm, Memory.read_write_self]
  have hlow : (b.writeBig a w).read (a + 1#16) = (lowByte w, b.writeBig a w) := by
    rw [hw, Bus.read_mem_ram h1, Memory.read_write_self]
  refine ⟨hhigh, hlow, ?_⟩
  simp only [Bus.readBig, hhigh, hlow, highByte_append_lowByte]

/-- An address resolves to a segment of the map that contains it (R61). -/
theorem exists_segment_of_resolve {map : MemMap} {a : Word} {k : SegKind} (h : resolve map a = some k) :
    ∃ g ∈ map, g.contains a = true ∧ g.kind = k := by
  induction map with
  | nil => cases h
  | cons g map ih =>
    by_cases hg : g.contains a = true
    · rw [resolve, if_pos hg] at h
      exact ⟨g, List.mem_cons_self, hg, Option.some.inj h⟩
    · rw [resolve, if_neg hg] at h
      obtain ⟨k, hk, hak⟩ := ih h
      exact ⟨k, List.mem_cons_of_mem g hk, hak⟩

/-- An address that some segment contains is mapped (R61). -/
theorem resolve_isSome {map : MemMap} {a : Word} {g : Segment} (hg : g ∈ map) (ha : g.contains a = true) :
    ∃ k, resolve map a = some k := by
  induction map with
  | nil => cases hg
  | cons j map ih =>
    by_cases hj : j.contains a = true
    · exact ⟨j.kind, by rw [resolve, if_pos hj]⟩
    · rw [resolve, if_neg hj]
      rcases List.mem_cons.1 hg with rfl | hmem
      · exact absurd ha hj
      · exact ih hmem

/-- No two places of the map contain one address. -/
def MemMap.disjoint (map : MemMap) : Prop :=
  map.Pairwise fun g k => ∀ a : Word, ¬(g.contains a = true ∧ k.contains a = true)

/-- In a disjoint map all segments that contain an address are one (R61). -/
theorem MemMap.disjoint.eq_of_contains {map : MemMap} (h : MemMap.disjoint map) {a : Word} {g k : Segment} (hg : g ∈ map)
    (hk : k ∈ map) (hga : g.contains a = true) (hka : k.contains a = true) : g = k := by
  by_contra hne
  have hsymm : Std.Symm fun g k : Segment => ∀ a : Word, ¬(g.contains a = true ∧ k.contains a = true) :=
    ⟨fun _ _ hgk a hboth => hgk a hboth.symm⟩
  exact List.Pairwise.forall h hg hk hne a ⟨hga, hka⟩

/-- Segments that share no address pass the test of R87: of two that fail it, one contains the other's base. -/
theorem Segment.apart_of_not_contains_both {g k : Segment}
    (h : ∀ a : Word, ¬(g.contains a = true ∧ k.contains a = true)) : Segment.apart g k = true := by
  rw [Segment.apart_iff]
  have hgbase := h g.base
  have hkbase := h k.base
  rw [Segment.contains_iff, Segment.contains_iff] at hgbase hkbase
  omega

/-- A legal configuration, in the terms of R87: inside the address space, no address in two segments, every handler there. -/
theorem MemMap.wf_iff_disjoint (map : MemMap) (handlers : List HandlerId) :
    MemMap.wf map handlers = true ↔
      (∀ g ∈ map, g.fits = true) ∧ MemMap.disjoint map ∧ (∀ g ∈ map, g.handled handlers = true) := by
  rw [MemMap.wf_iff, MemMap.apart_iff]
  exact and_congr_right' (and_congr_left'
    ⟨fun h => h.imp Segment.not_contains_both, fun h => h.imp Segment.apart_of_not_contains_both⟩)

theorem Segment.handled_iff (handlers : List HandlerId) (g : Segment) :
    g.handled handlers = true ↔ ∀ h, g.kind = .device h → h ∈ handlers := by
  unfold Segment.handled
  split
  · simp [*]
  · simp [*]
  · simp [*]

/-- A configuration is refused exactly when it is not legal (R87). -/
theorem misconfiguration_eq_none_iff (map : MemMap) (handlers : List HandlerId) :
    misconfiguration map handlers = none ↔ MemMap.wf map handlers = true := by
  unfold misconfiguration MemMap.wf
  cases map.all Segment.fits <;> cases MemMap.apart map <;> cases map.all (Segment.handled handlers) <;> simp

theorem configure_of_wf {map : MemMap} {handlers : List HandlerId} (h : MemMap.wf map handlers = true) (s : State) :
    configure map handlers s = .next { s with bus := { s.bus with map := map, handlers := handlers } } := by
  simp only [configure, (misconfiguration_eq_none_iff map handlers).2 h]
  rfl

theorem configure_of_not_wf {map : MemMap} {handlers : List HandlerId} (h : MemMap.wf map handlers = false) (s : State) :
    ∃ why, configure map handlers s = .fault (.misconfiguration why) := by
  cases hwhy : misconfiguration map handlers with
  | none => rw [(misconfiguration_eq_none_iff map handlers).1 hwhy] at h; cases h
  | some why => exact ⟨why, by simp only [configure, hwhy]⟩

end Sys2Proof.Machine
end

section
/-! The memory router and the configuration of the map (R60 to R70, R87, R142 to R145): the statements. -/

namespace Sys2Proof.Machine

/-- Settles O5: each clause is one branch of the router, and a handler's writes are taken in one after another. -/
theorem routedByteAccess : Obligations.RoutedByteAccess := by
  refine ⟨fun b a v => ⟨fun h => ?_, fun h => ?_, fun h => ?_, fun k h => ?_⟩,
    fun b e => ⟨rfl, fun h => ?_, fun h => ?_, rfl, fun ws a v => ⟨?_, fun c => ?_⟩⟩⟩
  · simp only [Bus.read, Bus.write, h, and_self]
  · simp only [Bus.read, Bus.write, h, and_self]
  · simp only [Bus.read, Bus.write, h, and_self]
  · simp only [Bus.read, Bus.write, h, Bus.callRead, Bus.callWrite, and_self]
  · simp only [Bus.absorb, h, if_true, and_self]
  · simp only [Bus.absorb, h, Bool.false_eq_true, if_false, and_self]
  · simp only [Bus.absorb, List.foldl_append, List.foldl_cons, List.foldl_nil]
  · simp only [Bus.absorb, List.foldl_append, List.foldl_cons, List.foldl_nil, Memory.read_write]

/-- Settles O6: over RAM the write is in `mem`; elsewhere no other byte of `mem` changes, and the map stays. -/
theorem readAfterRoutedWrite : Obligations.ReadAfterRoutedWrite := by
  intro b a c v
  refine ⟨fun h => ?_, fun ha hc hne => ?_, fun h => ?_⟩
  · rw [Bus.write_ram h, Bus.read_mem_ram h, Memory.read_write_self]
  · exact Bus.read_congr_plain hc (Bus.write_plain v ha).1 (Bus.read_mem_write_plain v ha hne)
  · simp only [Bus.write, h]

/-- Settles O7: an address resolves to some segment that contains it, and in a legal map there is no other. -/
theorem resolveIsTheOnlyMatch : Obligations.ResolveIsTheOnlyMatch := by
  intro map handlers a hwf
  obtain ⟨_, hdisjoint, _⟩ := (MemMap.wf_iff_disjoint map handlers).1 hwf
  refine ⟨fun k => ⟨exists_segment_of_resolve, ?_⟩, fun g hg k hk hga hka => hdisjoint.eq_of_contains hg hk hga hka⟩
  rintro ⟨g, hg, hga, rfl⟩
  obtain ⟨k, hk⟩ := resolve_isSome hg hga
  obtain ⟨j, hj, hja, rfl⟩ := exists_segment_of_resolve hk
  rw [hk, hdisjoint.eq_of_contains hg hj hga hja]

/-- Settles O8: the model's word accesses are the two routed bytes, and over RAM both bytes are kept. -/
theorem wordAccess : Obligations.WordAccess := by
  intro s a w
  refine ⟨readWord_eq a s, writeWord_eq a w s, BitVec.toNat_add .., fun h0 h1 => ?_⟩
  rw [State.ramAt_iff] at h0 h1
  obtain ⟨hhigh, hlow, hword⟩ := Bus.readBig_writeBig w h0 h1
  rw [hhigh, hlow, hword]
  exact ⟨rfl, highByte_toNat w, lowByte_toNat w⟩

/-- Settles O9: a zero extension keeps the number, and the sum of `X` and the offset wraps. -/
theorem effectiveAddresses : Obligations.EffectiveAddresses := by
  intro s d o w
  have hd := d.isLt
  have hdir : (ea (.dir d) s).toNat = d.toNat := by
    simp only [ea, BitVec.zeroExtend_eq_setWidth, BitVec.toNat_setWidth]
    omega
  refine ⟨hdir, ?_, rfl, ?_⟩
  · rw [BitVec.toNat_add, hdir, BitVec.toNat_ofNat]
    omega
  · simp only [ea, BitVec.zeroExtend_eq_setWidth, BitVec.toNat_add, BitVec.toNat_setWidth]
    omega

/-- Settles O10: the tests of R87 say that no address lies in two segments, and they alone decide. -/
theorem misconfigurationIsRejected : Obligations.MisconfigurationIsRejected := by
  intro map handlers s
  have hlegal : MemMap.wf map handlers = true ↔ (∀ g ∈ map, g.base.toNat + g.length ≤ 65536) ∧ MemMap.disjoint map ∧
      (∀ g ∈ map, ∀ h, g.kind = .device h → h ∈ handlers) := by
    simp only [MemMap.wf_iff_disjoint, Segment.fits_iff, Segment.handled_iff]
  refine ⟨Iff.trans ?_ hlegal, ?_⟩
  · refine ⟨fun h => ?_, fun h => configure_of_wf h s⟩
    by_contra hwf
    obtain ⟨why, hwhy⟩ := configure_of_not_wf (Bool.eq_false_of_not_eq_true hwf) s
    rw [hwhy] at h
    cases h
  · refine ⟨?_, fun h => configure_of_not_wf h s⟩
    rintro ⟨why, hwhy⟩
    by_contra hwf
    rw [configure_of_wf (Bool.eq_true_of_not_eq_false hwf)] at hwhy
    cases hwhy

end Sys2Proof.Machine
end

section
/-! DEFINITION. Every instruction but WAI as a member of its family: an operation with the operands of Safety/Forms.lean, or one
that touches no memory. With each family the base cost of its forms (R108) and its effect before that cost is charged. -/

namespace Sys2Proof.Machine

/-- The operations of an accumulator and a source operand that write the accumulator (R204, R240 to R244, R280 to R282). -/
inductive AluOp where
  | add | adc | sub | sbc | and | ora | eor | lda

def AluOp.form : AluOp → Acc → Src8 → Instr
  | .add => Form.add
  | .adc => Form.adc
  | .sub => Form.sub
  | .sbc => Form.sbc
  | .and => Form.and
  | .ora => Form.ora
  | .eor => Form.eor
  | .lda => Form.lda

def AluOp.fn : AluOp → Byte → Byte → Flags → Byte × Flags
  | .add => aluAdd
  | .adc => aluAdc
  | .sub => aluSub
  | .sbc => aluSbc
  | .and => aluAnd
  | .ora => aluOra
  | .eor => aluEor
  | .lda => aluLda

/-- The operations of an accumulator and a source operand that write flags alone (R246, R283). -/
inductive TestOp where
  | cmp | bit

def TestOp.form : TestOp → Acc → Src8 → Instr
  | .cmp => Form.cmp
  | .bit => Form.bit

def TestOp.fn : TestOp → Byte → Byte → Flags → Flags
  | .cmp => testCmp
  | .bit => testBit

/-- The one-operand operations that write their result back (R248 to R250, R284 to R289). -/
inductive UnaryOp where
  | neg | com | lsr | ror | asr | asl | rol | dec | inc

def UnaryOp.form : UnaryOp → Target → Instr
  | .neg => Form.neg
  | .com => Form.com
  | .lsr => Form.lsr
  | .ror => Form.ror
  | .asr => Form.asr
  | .asl => Form.asl
  | .rol => Form.rol
  | .dec => Form.dec
  | .inc => Form.inc

def UnaryOp.fn : UnaryOp → Byte → Flags → Byte × Flags
  | .neg => unaryNeg
  | .com => unaryCom
  | .lsr => unaryLsr
  | .ror => unaryRor
  | .asr => unaryAsr
  | .asl => unaryAsl
  | .rol => unaryRol
  | .dec => unaryDec
  | .inc => unaryInc

/-- The conditions of the branches (R311 to R325). -/
inductive Cond where
  | always | hi | ls | cc | cs | ne | eq | vc | vs | pl | mi | ge | lt | gt | le

def Cond.form : Cond → Byte → Instr
  | .always => .bra
  | .hi => .bhi
  | .ls => .bls
  | .cc => .bcc
  | .cs => .bcs
  | .ne => .bne
  | .eq => .beq
  | .vc => .bvc
  | .vs => .bvs
  | .pl => .bpl
  | .mi => .bmi
  | .ge => .bge
  | .lt => .blt
  | .gt => .bgt
  | .le => .ble

def Cond.holds : Cond → Flags → Bool
  | .always, _ => true
  | .hi, f => !(f.c || f.z)
  | .ls, f => f.c || f.z
  | .cc, f => !f.c
  | .cs, f => f.c
  | .ne, f => !f.z
  | .eq, f => f.z
  | .vc, f => !f.v
  | .vs, f => f.v
  | .pl, f => !f.n
  | .mi, f => f.n
  | .ge, f => f.n == f.v
  | .lt, f => f.n != f.v
  | .gt, f => !(f.z || (f.n != f.v))
  | .le, f => f.z || (f.n != f.v)

/-- The instructions of one byte that touch registers and flags alone. -/
inductive RegOp where
  | nop | tap | tpa | inx | dex | clv | sev | clc | sec | cli | sei | sba | cba | tab | tba | daa | aba | tsx | ins | des | txs

def RegOp.instr : RegOp → Instr
  | .nop => .nop
  | .tap => .tap
  | .tpa => .tpa
  | .inx => .inx
  | .dex => .dex
  | .clv => .clv
  | .sev => .sev
  | .clc => .clc
  | .sec => .sec
  | .cli => .cli
  | .sei => .sei
  | .sba => .sba
  | .cba => .cba
  | .tab => .tab
  | .tba => .tba
  | .daa => .daa
  | .aba => .aba
  | .tsx => .tsx
  | .ins => .ins
  | .des => .des
  | .txs => .txs

def RegOp.cost : RegOp → Nat
  | .inx | .dex | .tsx | .ins | .des | .txs => 4
  | _ => 2

def RegOp.run : RegOp → State → State
  | .nop, s => s
  | .tap, s => s.setCc (Flags.ofImage s.a)
  | .tpa, s => s.setA s.cc.image
  | .inx, s => (s.setX (s.x + 1#16)).setCc { s.cc with z := s.x + 1#16 == 0#16 }
  | .dex, s => (s.setX (s.x - 1#16)).setCc { s.cc with z := s.x - 1#16 == 0#16 }
  | .clv, s => s.setCc { s.cc with v := false }
  | .sev, s => s.setCc { s.cc with v := true }
  | .clc, s => s.setCc { s.cc with c := false }
  | .sec, s => s.setCc { s.cc with c := true }
  | .cli, s => setIMask false s
  | .sei, s => setIMask true s
  | .sba, s => accOp aluSub .a (.imm s.b) s
  | .cba, s => s.setCc (testCmp s.a s.b s.cc)
  | .tab, s => (s.setB s.a).setCc (s.cc.withNzv (mov8 s.a))
  | .tba, s => (s.setA s.b).setCc (s.cc.withNzv (mov8 s.b))
  | .daa, s => modifyAcc unaryDaa .a s
  | .aba, s => accOp aluAdd .a (.imm s.b) s
  | .tsx, s => s.setX (s.sp + 1#16)
  | .ins, s => s.setSp (s.sp + 1#16)
  | .des, s => s.setSp (s.sp - 1#16)
  | .txs, s => s.setSp (s.x - 1#16)

/-- A clear of an accumulator or of memory (R218). -/
def clearTarget : Target → State → State
  | .acc r => clearAcc r
  | .mem m => clearMem m.mode

/-- The instructions but WAI, family by family. -/
inductive Family where
  | alu (o : AluOp) (r : Acc) (src : Src8)
  | test (o : TestOp) (r : Acc) (src : Src8)
  | unary (o : UnaryOp) (t : Target)
  | tst (t : Target)
  | clr (t : Target)
  | sta (r : Acc) (m : MemMode)
  | ldx (src : Src16)
  | lds (src : Src16)
  | cpx (src : Src16)
  | stx (m : MemMode)
  | sts (m : MemMode)
  | psh (r : Acc)
  | pul (r : Acc)
  | branch (c : Cond) (rel8 : Byte)
  | jmp (m : IdxExt)
  | jsr (m : IdxExt)
  | bsr (rel8 : Byte)
  | rts
  | swi
  | rti
  | reg (o : RegOp)

def Family.instr : Family → Instr
  | .alu o r src => o.form r src
  | .test o r src => o.form r src
  | .unary o t => o.form t
  | .tst t => Form.tst t
  | .clr t => Form.clr t
  | .sta r m => Form.sta r m
  | .ldx src => Form.ldx src
  | .lds src => Form.lds src
  | .cpx src => Form.cpx src
  | .stx m => Form.stx m
  | .sts m => Form.sts m
  | .psh r => Form.psh r
  | .pul r => Form.pul r
  | .branch c rel8 => c.form rel8
  | .jmp m => Form.jmp m
  | .jsr m => Form.jsr m
  | .bsr rel8 => .bsr rel8
  | .rts => .rts
  | .swi => .swi
  | .rti => .rti
  | .reg o => o.instr

def Family.cost : Family → Nat
  | .alu _ _ src => srcCost src
  | .test _ _ src => srcCost src
  | .unary _ t => targetCost t
  | .tst t => targetCost t
  | .clr t => targetCost t
  | .sta _ m => storeCost m
  | .ldx src => src16Cost src
  | .lds src => src16Cost src
  | .cpx src => src16Cost src
  | .stx m => store16Cost m
  | .sts m => store16Cost m
  | .psh _ => 4
  | .pul _ => 4
  | .branch _ _ => 4
  | .jmp m => jmpCost m
  | .jsr m => jsrCost m
  | .bsr _ => 8
  | .rts => 5
  | .swi => 12
  | .rti => 10
  | .reg o => o.cost

/-- What an instruction of the family does, but for the charge of its cost. -/
def Family.run : Family → State → State
  | .alu o r src, s => accOp o.fn r src s
  | .test o r src, s => accTest o.fn r src s
  | .unary o t, s => modifyTarget o.fn t s
  | .tst t, s => testTarget t s
  | .clr t, s => clearTarget t s
  | .sta r m, s => storeAcc r m s
  | .ldx src, s => loadX src s
  | .lds src, s => loadSp src s
  | .cpx src, s => compareX src s
  | .stx m, s => storeWord s.x m s
  | .sts m, s => storeWord s.sp m s
  | .psh r, s => pushAcc r s
  | .pul r, s => pullAcc r s
  | .branch c rel8, s => if c.holds s.cc then s.setPc (relTarget rel8 s) else s
  | .jmp m, s => s.setPc (ea m.mode s)
  | .jsr m, s => callTo (ea m.mode s) s
  | .bsr rel8, s => callTo (branchTarget s.pc rel8) s
  | .rts, s => returnFromCall s
  | .swi, s => loadVector Config.vecSwi (setIMask true (pushFrame s))
  | .rti, s => returnFromInterrupt s
  | .reg o, s => o.run s

/-- The family of an instruction; WAI, the one instruction that reads the latch, stands apart. -/
def Instr.family : Instr → Option Family
  | .nop => some (.reg .nop) | .tap => some (.reg .tap) | .tpa => some (.reg .tpa) | .inx => some (.reg .inx)
  | .dex => some (.reg .dex) | .clv => some (.reg .clv) | .sev => some (.reg .sev) | .clc => some (.reg .clc)
  | .sec => some (.reg .sec) | .cli => some (.reg .cli) | .sei => some (.reg .sei) | .sba => some (.reg .sba)
  | .cba => some (.reg .cba) | .tab => some (.reg .tab) | .tba => some (.reg .tba) | .daa => some (.reg .daa)
  | .aba => some (.reg .aba) | .bra v => some (.branch .always v) | .bhi v => some (.branch .hi v)
  | .bls v => some (.branch .ls v) | .bcc v => some (.branch .cc v) | .bcs v => some (.branch .cs v)
  | .bne v => some (.branch .ne v) | .beq v => some (.branch .eq v) | .bvc v => some (.branch .vc v)
  | .bvs v => some (.branch .vs v) | .bpl v => some (.branch .pl v) | .bmi v => some (.branch .mi v)
  | .bge v => some (.branch .ge v) | .blt v => some (.branch .lt v) | .bgt v => some (.branch .gt v)
  | .ble v => some (.branch .le v) | .tsx => some (.reg .tsx) | .ins => some (.reg .ins) | .pula => some (.pul .a)
  | .pulb => some (.pul .b) | .des => some (.reg .des) | .txs => some (.reg .txs) | .psha => some (.psh .a)
  | .pshb => some (.psh .b) | .rts => some (.rts) | .rti => some (.rti) | .wai => none | .swi => some (.swi)
  | .nega => some (.unary .neg (.acc .a)) | .coma => some (.unary .com (.acc .a)) | .lsra => some (.unary .lsr (.acc .a))
  | .rora => some (.unary .ror (.acc .a)) | .asra => some (.unary .asr (.acc .a)) | .asla => some (.unary .asl (.acc .a))
  | .rola => some (.unary .rol (.acc .a)) | .deca => some (.unary .dec (.acc .a)) | .inca => some (.unary .inc (.acc .a))
  | .tsta => some (.tst (.acc .a)) | .clra => some (.clr (.acc .a)) | .negb => some (.unary .neg (.acc .b))
  | .comb => some (.unary .com (.acc .b)) | .lsrb => some (.unary .lsr (.acc .b)) | .rorb => some (.unary .ror (.acc .b))
  | .asrb => some (.unary .asr (.acc .b)) | .aslb => some (.unary .asl (.acc .b)) | .rolb => some (.unary .rol (.acc .b))
  | .decb => some (.unary .dec (.acc .b)) | .incb => some (.unary .inc (.acc .b)) | .tstb => some (.tst (.acc .b))
  | .clrb => some (.clr (.acc .b)) | .negIdx o => some (.unary .neg (.mem (.idx o)))
  | .comIdx o => some (.unary .com (.mem (.idx o))) | .lsrIdx o => some (.unary .lsr (.mem (.idx o)))
  | .rorIdx o => some (.unary .ror (.mem (.idx o))) | .asrIdx o => some (.unary .asr (.mem (.idx o)))
  | .aslIdx o => some (.unary .asl (.mem (.idx o))) | .rolIdx o => some (.unary .rol (.mem (.idx o)))
  | .decIdx o => some (.unary .dec (.mem (.idx o))) | .incIdx o => some (.unary .inc (.mem (.idx o)))
  | .tstIdx o => some (.tst (.mem (.idx o))) | .jmpIdx o => some (.jmp (.idx o))
  | .clrIdx o => some (.clr (.mem (.idx o))) | .negExt w => some (.unary .neg (.mem (.ext w)))
  | .comExt w => some (.unary .com (.mem (.ext w))) | .lsrExt w => some (.unary .lsr (.mem (.ext w)))
  | .rorExt w => some (.unary .ror (.mem (.ext w))) | .asrExt w => some (.unary .asr (.mem (.ext w)))
  | .aslExt w => some (.unary .asl (.mem (.ext w))) | .rolExt w => some (.unary .rol (.mem (.ext w)))
  | .decExt w => some (.unary .dec (.mem (.ext w))) | .incExt w => some (.unary .inc (.mem (.ext w)))
  | .tstExt w => some (.tst (.mem (.ext w))) | .jmpExt w => some (.jmp (.ext w))
  | .clrExt w => some (.clr (.mem (.ext w))) | .subaImm v => some (.alu .sub .a (.imm v))
  | .cmpaImm v => some (.test .cmp .a (.imm v)) | .sbcaImm v => some (.alu .sbc .a (.imm v))
  | .andaImm v => some (.alu .and .a (.imm v)) | .bitaImm v => some (.test .bit .a (.imm v))
  | .ldaaImm v => some (.alu .lda .a (.imm v)) | .eoraImm v => some (.alu .eor .a (.imm v))
  | .adcaImm v => some (.alu .adc .a (.imm v)) | .oraaImm v => some (.alu .ora .a (.imm v))
  | .addaImm v => some (.alu .add .a (.imm v)) | .cpxImm w => some (.cpx (.imm w)) | .bsr v => some (.bsr v)
  | .ldsImm w => some (.lds (.imm w)) | .subaDir d => some (.alu .sub .a (.mem (.dir d)))
  | .cmpaDir d => some (.test .cmp .a (.mem (.dir d))) | .sbcaDir d => some (.alu .sbc .a (.mem (.dir d)))
  | .andaDir d => some (.alu .and .a (.mem (.dir d))) | .bitaDir d => some (.test .bit .a (.mem (.dir d)))
  | .ldaaDir d => some (.alu .lda .a (.mem (.dir d))) | .staaDir d => some (.sta .a (.dir d))
  | .eoraDir d => some (.alu .eor .a (.mem (.dir d))) | .adcaDir d => some (.alu .adc .a (.mem (.dir d)))
  | .oraaDir d => some (.alu .ora .a (.mem (.dir d))) | .addaDir d => some (.alu .add .a (.mem (.dir d)))
  | .cpxDir d => some (.cpx (.mem (.dir d))) | .ldsDir d => some (.lds (.mem (.dir d)))
  | .stsDir d => some (.sts (.dir d)) | .subaIdx o => some (.alu .sub .a (.mem (.idx o)))
  | .cmpaIdx o => some (.test .cmp .a (.mem (.idx o))) | .sbcaIdx o => some (.alu .sbc .a (.mem (.idx o)))
  | .andaIdx o => some (.alu .and .a (.mem (.idx o))) | .bitaIdx o => some (.test .bit .a (.mem (.idx o)))
  | .ldaaIdx o => some (.alu .lda .a (.mem (.idx o))) | .staaIdx o => some (.sta .a (.idx o))
  | .eoraIdx o => some (.alu .eor .a (.mem (.idx o))) | .adcaIdx o => some (.alu .adc .a (.mem (.idx o)))
  | .oraaIdx o => some (.alu .ora .a (.mem (.idx o))) | .addaIdx o => some (.alu .add .a (.mem (.idx o)))
  | .cpxIdx o => some (.cpx (.mem (.idx o))) | .jsrIdx o => some (.jsr (.idx o))
  | .ldsIdx o => some (.lds (.mem (.idx o))) | .stsIdx o => some (.sts (.idx o))
  | .subaExt w => some (.alu .sub .a (.mem (.ext w))) | .cmpaExt w => some (.test .cmp .a (.mem (.ext w)))
  | .sbcaExt w => some (.alu .sbc .a (.mem (.ext w))) | .andaExt w => some (.alu .and .a (.mem (.ext w)))
  | .bitaExt w => some (.test .bit .a (.mem (.ext w))) | .ldaaExt w => some (.alu .lda .a (.mem (.ext w)))
  | .staaExt w => some (.sta .a (.ext w)) | .eoraExt w => some (.alu .eor .a (.mem (.ext w)))
  | .adcaExt w => some (.alu .adc .a (.mem (.ext w))) | .oraaExt w => some (.alu .ora .a (.mem (.ext w)))
  | .addaExt w => some (.alu .add .a (.mem (.ext w))) | .cpxExt w => some (.cpx (.mem (.ext w)))
  | .jsrExt w => some (.jsr (.ext w)) | .ldsExt w => some (.lds (.mem (.ext w))) | .stsExt w => some (.sts (.ext w))
  | .subbImm v => some (.alu .sub .b (.imm v)) | .cmpbImm v => some (.test .cmp .b (.imm v))
  | .sbcbImm v => some (.alu .sbc .b (.imm v)) | .andbImm v => some (.alu .and .b (.imm v))
  | .bitbImm v => some (.test .bit .b (.imm v)) | .ldabImm v => some (.alu .lda .b (.imm v))
  | .eorbImm v => some (.alu .eor .b (.imm v)) | .adcbImm v => some (.alu .adc .b (.imm v))
  | .orabImm v => some (.alu .ora .b (.imm v)) | .addbImm v => some (.alu .add .b (.imm v))
  | .ldxImm w => some (.ldx (.imm w)) | .subbDir d => some (.alu .sub .b (.mem (.dir d)))
  | .cmpbDir d => some (.test .cmp .b (.mem (.dir d))) | .sbcbDir d => some (.alu .sbc .b (.mem (.dir d)))
  | .andbDir d => some (.alu .and .b (.mem (.dir d))) | .bitbDir d => some (.test .bit .b (.mem (.dir d)))
  | .ldabDir d => some (.alu .lda .b (.mem (.dir d))) | .stabDir d => some (.sta .b (.dir d))
  | .eorbDir d => some (.alu .eor .b (.mem (.dir d))) | .adcbDir d => some (.alu .adc .b (.mem (.dir d)))
  | .orabDir d => some (.alu .ora .b (.mem (.dir d))) | .addbDir d => some (.alu .add .b (.mem (.dir d)))
  | .ldxDir d => some (.ldx (.mem (.dir d))) | .stxDir d => some (.stx (.dir d))
  | .subbIdx o => some (.alu .sub .b (.mem (.idx o))) | .cmpbIdx o => some (.test .cmp .b (.mem (.idx o)))
  | .sbcbIdx o => some (.alu .sbc .b (.mem (.idx o))) | .andbIdx o => some (.alu .and .b (.mem (.idx o)))
  | .bitbIdx o => some (.test .bit .b (.mem (.idx o))) | .ldabIdx o => some (.alu .lda .b (.mem (.idx o)))
  | .stabIdx o => some (.sta .b (.idx o)) | .eorbIdx o => some (.alu .eor .b (.mem (.idx o)))
  | .adcbIdx o => some (.alu .adc .b (.mem (.idx o))) | .orabIdx o => some (.alu .ora .b (.mem (.idx o)))
  | .addbIdx o => some (.alu .add .b (.mem (.idx o))) | .ldxIdx o => some (.ldx (.mem (.idx o)))
  | .stxIdx o => some (.stx (.idx o)) | .subbExt w => some (.alu .sub .b (.mem (.ext w)))
  | .cmpbExt w => some (.test .cmp .b (.mem (.ext w))) | .sbcbExt w => some (.alu .sbc .b (.mem (.ext w)))
  | .andbExt w => some (.alu .and .b (.mem (.ext w))) | .bitbExt w => some (.test .bit .b (.mem (.ext w)))
  | .ldabExt w => some (.alu .lda .b (.mem (.ext w))) | .stabExt w => some (.sta .b (.ext w))
  | .eorbExt w => some (.alu .eor .b (.mem (.ext w))) | .adcbExt w => some (.alu .adc .b (.mem (.ext w)))
  | .orabExt w => some (.alu .ora .b (.mem (.ext w))) | .addbExt w => some (.alu .add .b (.mem (.ext w)))
  | .ldxExt w => some (.ldx (.mem (.ext w))) | .stxExt w => some (.stx (.ext w))

/-- The table is right: each instruction is the one its family says. -/
theorem Instr.family_instr (i : Instr) : ((Instr.family i).map Family.instr).getD .wai = i := by
  cases i <;> rfl

/-- Every instruction is WAI or the member of its family. -/
theorem Instr.eq_wai_or_family (i : Instr) : i = .wai ∨ ∃ k : Family, k.instr = i := by
  have hi := Instr.family_instr i
  rcases hk : Instr.family i with _ | k
  · rw [hk] at hi
    exact .inl hi.symm
  · rw [hk] at hi
    exact .inr ⟨k, hi⟩

theorem exec_alu (o : AluOp) (r : Acc) (src : Src8) (s : State) :
    exec (o.form r src) s = .next (charge (srcCost src) (accOp o.fn r src s)) := by
  cases o with
  | add => exact exec_add r src s
  | adc => exact exec_adc r src s
  | sub => exact exec_sub r src s
  | sbc => exact exec_sbc r src s
  | and => exact exec_and r src s
  | ora => exact exec_ora r src s
  | eor => exact exec_eor r src s
  | lda => exact exec_lda r src s

theorem exec_test (o : TestOp) (r : Acc) (src : Src8) (s : State) :
    exec (o.form r src) s = .next (charge (srcCost src) (accTest o.fn r src s)) := by
  cases o with
  | cmp => exact exec_cmp r src s
  | bit => exact exec_bit r src s

theorem exec_unary (o : UnaryOp) (t : Target) (s : State) :
    exec (o.form t) s = .next (charge (targetCost t) (modifyTarget o.fn t s)) := by
  cases o with
  | neg => exact exec_neg t s
  | com => exact exec_com t s
  | lsr => exact exec_lsr t s
  | ror => exact exec_ror t s
  | asr => exact exec_asr t s
  | asl => exact exec_asl t s
  | rol => exact exec_rol t s
  | dec => exact exec_dec t s
  | inc => exact exec_inc t s

/-- A branch charges 4 whether it is taken or not (R140, R310). -/
theorem branched_eq_charge (taken : Bool) (rel8 : Byte) (s : State) :
    s.branched taken rel8 = charge 4 (if taken then s.setPc (relTarget rel8 s) else s) := by
  cases taken
  · rfl
  · simp only [if_true, relTarget_eq]
    rfl

theorem exec_branch (c : Cond) (rel8 : Byte) (s : State) : exec (c.form rel8) s = .next (s.branched (c.holds s.cc) rel8) := by
  cases c with
  | always => exact exec_bra rel8 s
  | hi => exact exec_bhi rel8 s
  | ls => exact exec_bls rel8 s
  | cc => exact exec_bcc rel8 s
  | cs => exact exec_bcs rel8 s
  | ne => exact exec_bne rel8 s
  | eq => exact exec_beq rel8 s
  | vc => exact exec_bvc rel8 s
  | vs => exact exec_bvs rel8 s
  | pl => exact exec_bpl rel8 s
  | mi => exact exec_bmi rel8 s
  | ge => exact exec_bge rel8 s
  | lt => exact exec_blt rel8 s
  | gt => exact exec_bgt rel8 s
  | le => exact exec_ble rel8 s

/-- Each form of CLR is the one clear, charged the cost of its operand (R218). -/
theorem exec_clr (t : Target) (s : State) : exec (Form.clr t) s = .next (charge (targetCost t) (clearTarget t s)) := by
  fun_cases Form.clr t <;> rfl

/-- Each form of LDX is the one load, charged the cost of its operand form (R206). -/
theorem exec_ldx (src : Src16) (s : State) : exec (Form.ldx src) s = .next (charge (src16Cost src) (loadX src s)) := by
  fun_cases Form.ldx src <;> rfl

/-- Each form of LDS is the one load, charged the cost of its operand form (R207). -/
theorem exec_lds (src : Src16) (s : State) : exec (Form.lds src) s = .next (charge (src16Cost src) (loadSp src s)) := by
  fun_cases Form.lds src <;> rfl

/-- Each form of CPX is the one compare, charged the cost of its operand form (R253). -/
theorem exec_cpx (src : Src16) (s : State) : exec (Form.cpx src) s = .next (charge (src16Cost src) (compareX src s)) := by
  fun_cases Form.cpx src <;> rfl

/-- Each form of STX is the one store, charged the cost of its addressing mode (R208). -/
theorem exec_stx (m : MemMode) (s : State) : exec (Form.stx m) s = .next (charge (store16Cost m) (storeWord s.x m s)) := by
  fun_cases Form.stx m <;> rfl

/-- Each form of STS is the one store, charged the cost of its addressing mode (R209). -/
theorem exec_sts (m : MemMode) (s : State) : exec (Form.sts m) s = .next (charge (store16Cost m) (storeWord s.sp m s)) := by
  fun_cases Form.sts m <;> rfl

theorem exec_reg (o : RegOp) (s : State) : exec o.instr s = .next (charge o.cost (o.run s)) := by
  cases o <;> rfl

theorem loadVector_charge (v : Word) (n : Nat) (s : State) : loadVector v (charge n s) = charge n (loadVector v s) := rfl

/-- Every instruction but WAI does what its family does and charges its cost (R140). -/
theorem exec_family (k : Family) (s : State) : exec k.instr s = .next (charge k.cost (k.run s)) := by
  cases k with
  | alu o r src => exact exec_alu o r src s
  | test o r src => exact exec_test o r src s
  | unary o t => exact exec_unary o t s
  | tst t => exact exec_tst t s
  | clr t => exact exec_clr t s
  | sta r m => exact exec_sta r m s
  | ldx src => exact exec_ldx src s
  | lds src => exact exec_lds src s
  | cpx src => exact exec_cpx src s
  | stx m => exact exec_stx m s
  | sts m => exact exec_sts m s
  | psh r => exact exec_psh r s
  | pul r => exact exec_pul r s
  | branch c rel8 => exact (exec_branch c rel8 s).trans (congrArg _ (branched_eq_charge _ rel8 s))
  | jmp m => exact exec_jmp m s
  | jsr m => exact exec_jsr m s
  | bsr rel8 => exact exec_bsr rel8 s
  | rts => exact exec_rts s
  | swi => exact (exec_swi s).trans (congrArg _ (loadVector_charge _ 12 _))
  | rti => exact exec_rti s
  | reg o => exact exec_reg o s

theorem baseCost_of_encode {i : Instr} {op : Byte} {operand : List Byte} (h : encode i = op :: operand) :
    baseCost i = rowCost op.toNat := by
  rw [baseCost, h, List.headD_cons]

/-- The opcodes of the four operand forms stand in rows whose costs are those of R108. -/
theorem baseCost_of_srcBytes {i : Instr} {opImm opDir opIdx opExt : Byte} {src : Src8}
    (h : encode i = srcBytes opImm opDir opIdx opExt src) (himm : rowCost opImm.toNat = 2) (hdir : rowCost opDir.toNat = 3)
    (hidx : rowCost opIdx.toNat = 5) (hext : rowCost opExt.toNat = 4) : baseCost i = srcCost src := by
  rcases src with v | (d | o | w)
  · exact (baseCost_of_encode h).trans himm
  · exact (baseCost_of_encode h).trans hdir
  · exact (baseCost_of_encode h).trans hidx
  · exact (baseCost_of_encode h).trans hext

theorem baseCost_alu (o : AluOp) (r : Acc) (src : Src8) : baseCost (o.form r src) = srcCost src := by
  cases o with
  | add => cases r <;> exact baseCost_of_srcBytes (encode_add _ src) rfl rfl rfl rfl
  | adc => cases r <;> exact baseCost_of_srcBytes (encode_adc _ src) rfl rfl rfl rfl
  | sub => cases r <;> exact baseCost_of_srcBytes (encode_sub _ src) rfl rfl rfl rfl
  | sbc => cases r <;> exact baseCost_of_srcBytes (encode_sbc _ src) rfl rfl rfl rfl
  | and => cases r <;> exact baseCost_of_srcBytes (encode_and _ src) rfl rfl rfl rfl
  | ora => cases r <;> exact baseCost_of_srcBytes (encode_ora _ src) rfl rfl rfl rfl
  | eor => cases r <;> exact baseCost_of_srcBytes (encode_eor _ src) rfl rfl rfl rfl
  | lda => cases r <;> exact baseCost_of_srcBytes (encode_lda _ src) rfl rfl rfl rfl

theorem baseCost_test (o : TestOp) (r : Acc) (src : Src8) : baseCost (o.form r src) = srcCost src := by
  cases o with
  | cmp => cases r <;> exact baseCost_of_srcBytes (encode_cmp _ src) rfl rfl rfl rfl
  | bit => cases r <;> exact baseCost_of_srcBytes (encode_bit _ src) rfl rfl rfl rfl

/-- The opcodes of the four operands of a one-operand instruction stand in rows whose costs are those of R108. -/
theorem baseCost_of_targetBytes {i : Instr} {opA opB opIdx opExt : Byte} {t : Target}
    (h : encode i = targetBytes opA opB opIdx opExt t) (ha : rowCost opA.toNat = 2) (hb : rowCost opB.toNat = 2)
    (hidx : rowCost opIdx.toNat = 7) (hext : rowCost opExt.toNat = 6) : baseCost i = targetCost t := by
  rcases t with (_ | _) | (o | w)
  · exact (baseCost_of_encode h).trans ha
  · exact (baseCost_of_encode h).trans hb
  · exact (baseCost_of_encode h).trans hidx
  · exact (baseCost_of_encode h).trans hext

theorem baseCost_unary (o : UnaryOp) (t : Target) : baseCost (o.form t) = targetCost t := by
  cases o with
  | neg => exact baseCost_of_targetBytes (encode_neg t) rfl rfl rfl rfl
  | com => exact baseCost_of_targetBytes (encode_com t) rfl rfl rfl rfl
  | lsr => exact baseCost_of_targetBytes (encode_lsr t) rfl rfl rfl rfl
  | ror => exact baseCost_of_targetBytes (encode_ror t) rfl rfl rfl rfl
  | asr => exact baseCost_of_targetBytes (encode_asr t) rfl rfl rfl rfl
  | asl => exact baseCost_of_targetBytes (encode_asl t) rfl rfl rfl rfl
  | rol => exact baseCost_of_targetBytes (encode_rol t) rfl rfl rfl rfl
  | dec => exact baseCost_of_targetBytes (encode_dec t) rfl rfl rfl rfl
  | inc => exact baseCost_of_targetBytes (encode_inc t) rfl rfl rfl rfl

theorem encode_clr (t : Target) : encode (Form.clr t) = targetBytes 0x4F#8 0x5F#8 0x6F#8 0x7F#8 t := by
  fun_cases Form.clr t <;> rfl

/-- The cost of each form is the one its opcode's row gives (R108). -/
theorem baseCost_instr (k : Family) : baseCost k.instr = k.cost := by
  cases k with
  | alu o r src => exact baseCost_alu o r src
  | test o r src => exact baseCost_test o r src
  | unary o t => exact baseCost_unary o t
  | tst t => exact baseCost_of_targetBytes (encode_tst t) rfl rfl rfl rfl
  | clr t => exact baseCost_of_targetBytes (encode_clr t) rfl rfl rfl rfl
  | sta r m => fun_cases Form.sta r m <;> exact (baseCost_of_encode rfl).trans rfl
  | ldx src => fun_cases Form.ldx src <;> exact (baseCost_of_encode rfl).trans rfl
  | lds src => fun_cases Form.lds src <;> exact (baseCost_of_encode rfl).trans rfl
  | cpx src => fun_cases Form.cpx src <;> exact (baseCost_of_encode rfl).trans rfl
  | stx m => fun_cases Form.stx m <;> exact (baseCost_of_encode rfl).trans rfl
  | sts m => fun_cases Form.sts m <;> exact (baseCost_of_encode rfl).trans rfl
  | psh r => cases r <;> rfl
  | pul r => cases r <;> rfl
  | branch c rel8 => cases c <;> exact (baseCost_of_encode rfl).trans rfl
  | jmp m => cases m <;> exact (baseCost_of_encode rfl).trans rfl
  | jsr m => cases m <;> exact (baseCost_of_encode rfl).trans rfl
  | bsr rel8 => exact (baseCost_of_encode rfl).trans rfl
  | rts => rfl
  | swi => rfl
  | rti => rfl
  | reg o => cases o <;> rfl

end Sys2Proof.Machine
end

section
/-! SUPPORT. What every instruction but WAI keeps, family by family: the control state it neither reads nor writes (R41, R43, R45),
the routed accesses it makes (R148), the flags it does not write (R37), the registers it does not write (R22). -/

namespace Sys2Proof.Machine

theorem loadX_eq (src : Src16) (s : State) :
    loadX src s =
      { s with
        x := (sourceWord src s).1, cc := s.cc.withNzv16 (mov16 (sourceWord src s).1), bus := (sourceWord src s).2 } := by
  simp only [loadX, operand16_eq]
  rfl

theorem loadSp_eq (src : Src16) (s : State) :
    loadSp src s =
      { s with
        sp := (sourceWord src s).1, cc := s.cc.withNzv16 (mov16 (sourceWord src s).1), bus := (sourceWord src s).2 } := by
  simp only [loadSp, operand16_eq]
  rfl

theorem compareX_eq (src : Src16) (s : State) :
    compareX src s =
      { s with cc := s.cc.withNzv16 (sub16 s.x (sourceWord src s).1), bus := (sourceWord src s).2 } := by
  simp only [compareX, operand16_eq]
  rfl

theorem storeWord_eq (w : Word) (m : MemMode) (s : State) :
    storeWord w m s = { s with cc := s.cc.withNzv16 (mov16 w), bus := s.bus.writeBig (ea m s) w } := rfl

theorem clearAcc_eq (r : Acc) (s : State) : clearAcc r s = { s.withAcc r 0x00#8 with cc := s.cc.withNzvc clr8 } := by
  rw [clearAcc, State.setAcc_eq_withAcc]
  rfl

/-- Everything a branch does but for the charge (R310). -/
theorem run_branch_eq (c : Cond) (rel8 : Byte) (s : State) :
    Family.run (.branch c rel8) s = { s with pc := if c.holds s.cc then branchTarget s.pc rel8 else s.pc } := by
  rw [Family.run, relTarget_eq]
  cases c.holds s.cc <;> rfl

theorem loadVector_eq (v : Word) (s : State) :
    loadVector v s = { s with pc := (s.bus.readBig v).1, bus := (s.bus.readBig v).2 } := rfl

/-- The memory side an interrupt entry reads its vector from: the frame pushed (R366). -/
def State.framed (s : State) : Bus :=
  s.bus.pushed s.sp (frameBytes s)

/-- Everything the software interrupt does but for the charge (R340). -/
theorem run_swi_eq (s : State) :
    Family.run .swi s =
      { s with
        sp := s.sp - 7#16, cc := { s.cc with i := true }, pc := (s.framed.readBig Config.vecSwi).1
        bus := (s.framed.readBig Config.vecSwi).2 } := by
  simp only [Family.run, pushFrame_eq, setIMask, State.setCc, loadVector_eq, State.framed]

/-! The control state. -/

/-- The part of the state that no data path sees: the latch, the budget, the stop reason, and the model's own fields. -/
structure Control where
  pend : Pend
  budget : Int
  budgetIn : Int
  stop : Stop
  loop : LoopPoint
  resets : Nat

def State.withControl (s : State) (c : Control) : State :=
  { s with pend := c.pend, budget := c.budget, budgetIn := c.budgetIn, stop := c.stop, loop := c.loop, resets := c.resets }

def State.control (s : State) : Control :=
  { pend := s.pend, budget := s.budget, budgetIn := s.budgetIn, stop := s.stop, loop := s.loop, resets := s.resets }

theorem sourceByte_withControl (src : Src8) (s : State) (c : Control) :
    sourceByte src (s.withControl c) = sourceByte src s := by
  cases src with
  | imm => rfl
  | mem m => cases m <;> rfl

theorem sourceWord_withControl (src : Src16) (s : State) (c : Control) :
    sourceWord src (s.withControl c) = sourceWord src s := by
  cases src with
  | imm => rfl
  | mem m => cases m <;> rfl

theorem ea_withControl (m : MemMode) (s : State) (c : Control) : ea m (s.withControl c) = ea m s := by
  cases m <;> rfl

theorem targetByte_withControl (t : Target) (s : State) (c : Control) :
    targetByte t (s.withControl c) = targetByte t s := by
  cases t with
  | acc r => rfl
  | mem m => simp only [targetByte, ea_withControl]; rfl

theorem modified_withControl (t : Target) (v : Byte) (s : State) (c : Control) :
    (s.withControl c).modified t v = (s.modified t v).withControl c := by
  cases t with
  | acc r => rfl
  | mem m => simp only [State.modified, targetByte_withControl, ea_withControl]; rfl

/-- No instruction but WAI reads or writes the control state, the charge of its cost apart. -/
theorem run_withControl (k : Family) (s : State) (c : Control) : k.run (s.withControl c) = (k.run s).withControl c := by
  cases k with
  | alu o r src =>
    simp only [Family.run, accOp_eq, sourceByte_withControl]
    rfl
  | test o r src =>
    simp only [Family.run, accTest_eq, sourceByte_withControl]
    rfl
  | unary o t =>
    simp only [Family.run, modifyTarget_eq, targetByte_withControl, modified_withControl]
    rfl
  | tst t =>
    simp only [Family.run, testTarget_eq, targetByte_withControl]
    rfl
  | clr t =>
    cases t with
    | acc r => cases r <;> rfl
    | mem m => cases m <;> rfl
  | sta r m =>
    simp only [Family.run, storeAcc_eq, ea_withControl]
    rfl
  | ldx src =>
    simp only [Family.run, loadX_eq, sourceWord_withControl]
    rfl
  | lds src =>
    simp only [Family.run, loadSp_eq, sourceWord_withControl]
    rfl
  | cpx src =>
    simp only [Family.run, compareX_eq, sourceWord_withControl]
    rfl
  | stx m =>
    simp only [Family.run, storeWord_eq, ea_withControl]
    rfl
  | sts m =>
    simp only [Family.run, storeWord_eq, ea_withControl]
    rfl
  | psh r =>
    simp only [Family.run, pushAcc_eq]
    rfl
  | pul r =>
    simp only [Family.run, pullAcc_eq]
    rfl
  | branch cond rel8 =>
    rw [run_branch_eq, run_branch_eq]
    rfl
  | jmp m => cases m <;> rfl
  | jsr m => cases m <;> rfl
  | bsr rel8 => rfl
  | rts => rfl
  | swi =>
    have hframed : (s.withControl c).framed = s.framed := rfl
    rw [run_swi_eq, run_swi_eq, hframed]
    rfl
  | rti =>
    simp only [Family.run, returnFromInterrupt_eq]
    rfl
  | reg o => cases o <;> rfl

/-- An instruction but WAI leaves the control state as it is, the charge of its cost apart. -/
theorem run_control (k : Family) (s : State) : (k.run s).control = s.control := by
  have h : k.run s = (k.run s).withControl s.control := run_withControl k s s.control
  rw [h]
  rfl

@[simp] theorem run_pend (k : Family) (s : State) : (k.run s).pend = s.pend :=
  congrArg Control.pend (run_control k s)

@[simp] theorem run_budget (k : Family) (s : State) : (k.run s).budget = s.budget :=
  congrArg Control.budget (run_control k s)

@[simp] theorem run_budgetIn (k : Family) (s : State) : (k.run s).budgetIn = s.budgetIn :=
  congrArg Control.budgetIn (run_control k s)

@[simp] theorem run_stop (k : Family) (s : State) : (k.run s).stop = s.stop :=
  congrArg Control.stop (run_control k s)

@[simp] theorem run_loop (k : Family) (s : State) : (k.run s).loop = s.loop :=
  congrArg Control.loop (run_control k s)

end Sys2Proof.Machine
end

section
/-! SUPPORT. The routed accesses of every instruction but WAI (R148): it reads at the addresses of `readAt` and writes at those of
`storedAt`, and what that leaves of memory where no address is a device's (R63, R64, R74). -/

namespace Sys2Proof.Machine

/-- The second memory side is reached from the first by routed writes at addresses of one list and routed reads at addresses of
another. -/
inductive Bus.AccessesAt (stored read : List Word) : Bus → Bus → Prop
  | refl (b : Bus) : Bus.AccessesAt stored read b b
  | read {b c : Bus} (h : Bus.AccessesAt stored read b c) {a : Word} (ha : a ∈ read) :
      Bus.AccessesAt stored read b (c.read a).2
  | write {b c : Bus} (h : Bus.AccessesAt stored read b c) {a : Word} (v : Byte) (ha : a ∈ stored) :
      Bus.AccessesAt stored read b (c.write a v)

theorem Bus.AccessesAt.accesses {stored read : List Word} {b c : Bus} (h : Bus.AccessesAt stored read b c) :
    Bus.Accesses b c := by
  induction h with
  | refl => exact .refl _
  | read _ _ ih => exact ih.read _
  | write _ v _ ih => exact ih.write _ v

/-- Accesses that call no handler keep the map, the handler table and the handlers' state, and every byte not stored to. -/
theorem Bus.AccessesAt.frame {stored read : List Word} {b c : Bus} (h : Bus.AccessesAt stored read b c)
    (hplain : ∀ a ∈ stored ++ read, b.plain a = true) :
    (c.map = b.map ∧ c.handlers = b.handlers ∧ c.dev = b.dev) ∧ ∀ a ∉ stored, c.mem.read a = b.mem.read a := by
  induction h with
  | refl => exact ⟨⟨rfl, rfl, rfl⟩, fun _ _ => rfl⟩
  | @read c _ a ha ih =>
    have hc : c.plain a = true := by
      rw [Bus.plain, ih.1.1]
      exact hplain a (List.mem_append_right _ ha)
    rw [Bus.read_plain hc]
    exact ih
  | @write c _ a v ha ih =>
    have hc : c.plain a = true := by
      rw [Bus.plain, ih.1.1]
      exact hplain a (List.mem_append_left _ ha)
    obtain ⟨hmap, hhandlers, hdev⟩ := Bus.write_plain v hc
    refine ⟨⟨hmap.trans ih.1.1, hhandlers.trans ih.1.2.1, hdev.trans ih.1.2.2⟩, fun d hd => ?_⟩
    rw [Bus.read_mem_write_plain v hc (ne_of_mem_of_not_mem ha hd).symm, ih.2 d hd]

theorem Bus.AccessesAt.readBig {stored read : List Word} {b c : Bus} (h : Bus.AccessesAt stored read b c) {a : Word}
    (h0 : a ∈ read) (h1 : a + 1#16 ∈ read) : Bus.AccessesAt stored read b (c.readBig a).2 :=
  (h.read h0).read h1

theorem Bus.AccessesAt.writeBig {stored read : List Word} {b c : Bus} (h : Bus.AccessesAt stored read b c) {a : Word}
    (w : Word) (h0 : a ∈ stored) (h1 : a + 1#16 ∈ stored) : Bus.AccessesAt stored read b (c.writeBig a w) :=
  (h.write _ h0).write _ h1

theorem Bus.AccessesAt.pushed {stored read : List Word} {b c : Bus} (h : Bus.AccessesAt stored read b c) {sp : Word}
    {vs : List Byte} (hs : ∀ n < vs.length, sp - BitVec.ofNat 16 n ∈ stored) :
    Bus.AccessesAt stored read b (c.pushed sp vs) := by
  induction vs generalizing c sp with
  | nil => exact h
  | cons v vs ih =>
    refine ih (h.write v (by simpa using hs 0 (by simp))) fun n hn => ?_
    rw [word_sub_sub sp 1, Nat.add_comm]
    exact hs (n + 1) (by simpa using hn)

/-- The addresses an 8-bit source operand is read at (R148). -/
def srcAddrs : Src8 → State → List Word
  | .imm _, _ => []
  | .mem m, s => [ea m s]

/-- The addresses a 16-bit source operand is read at (R148). -/
def src16Addrs : Src16 → State → List Word
  | .imm _, _ => []
  | .mem m, s => [ea m s, ea m s + 1#16]

/-- The address a one-operand instruction reads and writes (R148). -/
def targetAddrs : Target → State → List Word
  | .acc _, _ => []
  | .mem m, s => [ea m.mode s]

theorem sourceByte_accessesAt (src : Src8) (s : State) {stored : List Word} :
    Bus.AccessesAt stored (srcAddrs src s) s.bus (sourceByte src s).2 := by
  cases src with
  | imm => exact .refl _
  | mem m => exact (Bus.AccessesAt.refl s.bus).read (a := ea m s) List.mem_cons_self

theorem sourceWord_accessesAt (src : Src16) (s : State) {stored : List Word} :
    Bus.AccessesAt stored (src16Addrs src s) s.bus (sourceWord src s).2 := by
  cases src with
  | imm => exact .refl _
  | mem m => exact (Bus.AccessesAt.refl s.bus).readBig (a := ea m s) (by simp [src16Addrs]) (by simp [src16Addrs])

theorem targetByte_accessesAt (t : Target) (s : State) {stored : List Word} :
    Bus.AccessesAt stored (targetAddrs t s) s.bus (targetByte t s).2 := by
  cases t with
  | acc r => exact .refl _
  | mem m => exact (Bus.AccessesAt.refl s.bus).read (a := ea m.mode s) List.mem_cons_self

theorem modified_accessesAt (t : Target) (v : Byte) (s : State) :
    Bus.AccessesAt (targetAddrs t s) (targetAddrs t s) s.bus (s.modified t v).bus := by
  cases t with
  | acc r => exact .refl _
  | mem m => exact (targetByte_accessesAt (.mem m) s).write (a := ea m.mode s) v List.mem_cons_self

/-- The addresses an instruction of the family stores to, by its operands (R148, R200, R205, R208). -/
def Family.storedAt : Family → State → List Word
  | .unary _ t, s => targetAddrs t s
  | .clr t, s => targetAddrs t s
  | .sta _ m, s => [ea m s]
  | .stx m, s => [ea m s, ea m s + 1#16]
  | .sts m, s => [ea m s, ea m s + 1#16]
  | .psh _, s => [s.sp]
  | .jsr _, s => [s.sp, s.sp - 1#16]
  | .bsr _, s => [s.sp, s.sp - 1#16]
  | .swi, s => frameAddrs s.sp
  | _, _ => []

/-- The addresses an instruction of the family reads as data, by its operands (R148, R201, R203, R340, R341). -/
def Family.readAt : Family → State → List Word
  | .alu _ _ src, s => srcAddrs src s
  | .test _ _ src, s => srcAddrs src s
  | .unary _ t, s => targetAddrs t s
  | .tst t, s => targetAddrs t s
  | .ldx src, s => src16Addrs src s
  | .lds src, s => src16Addrs src s
  | .cpx src, s => src16Addrs src s
  | .pul _, s => [s.sp + 1#16]
  | .rts, s => [s.sp + 1#16, s.sp + 2#16]
  | .rti, s => [s.sp + 1#16, s.sp + 2#16, s.sp + 3#16, s.sp + 4#16, s.sp + 5#16, s.sp + 6#16, s.sp + 7#16]
  | .swi, _ => [Config.vecSwi, Config.vecSwi + 1#16]
  | _, _ => []

/-- The spec's tables of stores and reads say the same of each form. -/
theorem accessedAt_instr (k : Family) (s : State) :
    storedAt k.instr s = k.storedAt s ∧ readAt k.instr s = k.readAt s := by
  cases k with
  | alu o r src => cases o <;> fun_cases Form.add r src <;> exact ⟨rfl, rfl⟩
  | test o r src => cases o <;> fun_cases Form.cmp r src <;> exact ⟨rfl, rfl⟩
  | unary o t => cases o <;> fun_cases Form.neg t <;> exact ⟨rfl, rfl⟩
  | tst t => fun_cases Form.tst t <;> exact ⟨rfl, rfl⟩
  | clr t => fun_cases Form.clr t <;> exact ⟨rfl, rfl⟩
  | sta r m => fun_cases Form.sta r m <;> exact ⟨rfl, rfl⟩
  | ldx src => fun_cases Form.ldx src <;> exact ⟨rfl, rfl⟩
  | lds src => fun_cases Form.lds src <;> exact ⟨rfl, rfl⟩
  | cpx src => fun_cases Form.cpx src <;> exact ⟨rfl, rfl⟩
  | stx m => fun_cases Form.stx m <;> exact ⟨rfl, rfl⟩
  | sts m => fun_cases Form.sts m <;> exact ⟨rfl, rfl⟩
  | psh r => cases r <;> exact ⟨rfl, rfl⟩
  | pul r => cases r <;> exact ⟨rfl, rfl⟩
  | branch c rel8 => cases c <;> exact ⟨rfl, rfl⟩
  | jmp m => cases m <;> exact ⟨rfl, rfl⟩
  | jsr m => cases m <;> exact ⟨rfl, rfl⟩
  | bsr rel8 => exact ⟨rfl, rfl⟩
  | rts => exact ⟨rfl, rfl⟩
  | swi => exact ⟨rfl, rfl⟩
  | rti => exact ⟨rfl, rfl⟩
  | reg o => cases o <;> exact ⟨rfl, rfl⟩

theorem returnFromInterrupt_accessesAt (s : State) :
    Bus.AccessesAt [] (Family.readAt .rti s) s.bus (returnFromInterrupt s).bus := by
  have h5 : s.sp + 4#16 + 1#16 = s.sp + 5#16 := word_add_add s.sp 4 1
  have h7 : s.sp + 6#16 + 1#16 = s.sp + 7#16 := word_add_add s.sp 6 1
  have h1 := (Bus.AccessesAt.refl (stored := []) (read := Family.readAt .rti s) s.bus).read (a := s.sp + 1#16)
    (by simp [Family.readAt])
  rw [returnFromInterrupt_eq]
  dsimp only
  generalize s.bus.read (s.sp + 1#16) = r1 at h1 ⊢
  have h2 := h1.read (a := s.sp + 2#16) (by simp [Family.readAt])
  generalize r1.2.read (s.sp + 2#16) = r2 at h2 ⊢
  have h3 := h2.read (a := s.sp + 3#16) (by simp [Family.readAt])
  generalize r2.2.read (s.sp + 3#16) = r3 at h3 ⊢
  have h4 := h3.readBig (a := s.sp + 4#16) (by simp [Family.readAt]) (by simp [Family.readAt, h5])
  generalize r3.2.readBig (s.sp + 4#16) = r4 at h4 ⊢
  exact h4.readBig (a := s.sp + 6#16) (by simp [Family.readAt]) (by simp [Family.readAt, h7])

theorem swi_accessesAt (s : State) :
    Bus.AccessesAt (frameAddrs s.sp) (Family.readAt .swi s) s.bus (Family.run .swi s).bus := by
  have hframed : Bus.AccessesAt (frameAddrs s.sp) (Family.readAt .swi s) s.bus s.framed := by
    refine (Bus.AccessesAt.refl s.bus).pushed fun n hn => ?_
    simp only [frameBytes, List.length_cons, List.length_nil] at hn
    interval_cases n <;> simp [frameAddrs]
  rw [run_swi_eq]
  dsimp only
  exact hframed.readBig (a := Config.vecSwi) (by simp [Family.readAt]) (by simp [Family.readAt])

/-- An instruction but WAI makes no access but at the addresses its operands give (R148). -/
theorem run_accessesAt (k : Family) (s : State) : Bus.AccessesAt (k.storedAt s) (k.readAt s) s.bus (k.run s).bus := by
  cases k with
  | alu o r src =>
    rw [Family.run, accOp_eq]
    exact sourceByte_accessesAt src s
  | test o r src =>
    rw [Family.run, accTest_eq]
    exact sourceByte_accessesAt src s
  | unary o t =>
    rw [Family.run, modifyTarget_eq]
    exact modified_accessesAt t _ s
  | tst t =>
    rw [Family.run, testTarget_eq]
    exact targetByte_accessesAt t s
  | clr t =>
    cases t with
    | acc r => cases r <;> exact .refl _
    | mem m => exact (Bus.AccessesAt.refl s.bus).write (a := ea m.mode s) _ List.mem_cons_self
  | sta r m =>
    rw [Family.run, storeAcc_eq]
    exact (Bus.AccessesAt.refl s.bus).write _ List.mem_cons_self
  | ldx src =>
    rw [Family.run, loadX_eq]
    exact sourceWord_accessesAt src s
  | lds src =>
    rw [Family.run, loadSp_eq]
    exact sourceWord_accessesAt src s
  | cpx src =>
    rw [Family.run, compareX_eq]
    exact sourceWord_accessesAt src s
  | stx m => exact (Bus.AccessesAt.refl s.bus).writeBig (a := ea m s) s.x (by simp [Family.storedAt]) (by simp [Family.storedAt])
  | sts m => exact (Bus.AccessesAt.refl s.bus).writeBig (a := ea m s) s.sp (by simp [Family.storedAt]) (by simp [Family.storedAt])
  | psh r =>
    rw [Family.run, pushAcc_eq]
    exact (Bus.AccessesAt.refl s.bus).write _ List.mem_cons_self
  | pul r =>
    rw [Family.run, pullAcc_eq]
    exact (Bus.AccessesAt.refl s.bus).read List.mem_cons_self
  | branch c rel8 =>
    rw [run_branch_eq]
    exact .refl _
  | jmp m => exact .refl _
  | jsr m =>
    rw [Family.run, callTo_eq]
    exact ((Bus.AccessesAt.refl s.bus).write _ (by simp [Family.storedAt])).write _ (by simp [Family.storedAt])
  | bsr rel8 =>
    rw [Family.run, callTo_eq]
    exact ((Bus.AccessesAt.refl s.bus).write _ (by simp [Family.storedAt])).write _ (by simp [Family.storedAt])
  | rts =>
    rw [Family.run, returnFromCall_eq]
    exact (Bus.AccessesAt.refl s.bus).readBig (by simp [Family.readAt]) (by simp [Family.readAt, word_add_add s.sp 1 1])
  | swi => exact swi_accessesAt s
  | rti => exact returnFromInterrupt_accessesAt s
  | reg o => cases o <;> exact .refl _

end Sys2Proof.Machine
end

section
/-! SUPPORT. The flags (R37) and the general registers (R22) that every instruction but WAI leaves alone, family by family. -/

namespace Sys2Proof.Machine

/-- The two flag registers agree on every flag outside the set, a set of flags being given by its members' bits. -/
structure Flags.SameOff (w f g : Flags) : Prop where
  h : w.h = false → f.h = g.h
  i : w.i = false → f.i = g.i
  n : w.n = false → f.n = g.n
  z : w.z = false → f.z = g.z
  v : w.v = false → f.v = g.v
  c : w.c = false → f.c = g.c

theorem Flags.SameOff.refl (w f : Flags) : Flags.SameOff w f f :=
  ⟨fun _ => rfl, fun _ => rfl, fun _ => rfl, fun _ => rfl, fun _ => rfl, fun _ => rfl⟩

/-- No flag. -/
def Flags.none : Flags := { h := false, i := false, n := false, z := false, v := false, c := false }

/-- The flags of a move, a logical operation, an increment (R167, R169, R178). -/
def Flags.nzv : Flags := { Flags.none with n := true, z := true, v := true }

/-- The flags of a subtraction, a compare, a shift, a clear (R164, R172, R182). -/
def Flags.nzvc : Flags := { Flags.nzv with c := true }

/-- The flags of an addition (R161). -/
def Flags.hnzvc : Flags := { Flags.nzvc with h := true }

def Flags.all : Flags := { Flags.hnzvc with i := true }

theorem Flags.sameOff_withNzv (f : Flags) (r : Nzv) : Flags.SameOff .nzv (f.withNzv r) f :=
  ⟨fun _ => rfl, fun _ => rfl, nofun, nofun, nofun, fun _ => rfl⟩

theorem Flags.sameOff_withNzv16 (f : Flags) (r : Nzv16) : Flags.SameOff .nzv (f.withNzv16 r) f :=
  ⟨fun _ => rfl, fun _ => rfl, nofun, nofun, nofun, fun _ => rfl⟩

theorem Flags.sameOff_withNzvc (f : Flags) (r : Nzvc) : Flags.SameOff .nzvc (f.withNzvc r) f :=
  ⟨fun _ => rfl, fun _ => rfl, nofun, nofun, nofun, nofun⟩

theorem Flags.sameOff_withHnzvc (f : Flags) (r : Hnzvc) : Flags.SameOff .hnzvc (f.withHnzvc r) f :=
  ⟨nofun, fun _ => rfl, nofun, nofun, nofun, nofun⟩

theorem Flags.sameOff_all (f g : Flags) : Flags.SameOff .all f g :=
  ⟨nofun, nofun, nofun, nofun, nofun, nofun⟩

def AluOp.flags : AluOp → Flags
  | .add | .adc => .hnzvc
  | .sub | .sbc => .nzvc
  | .and | .ora | .eor | .lda => .nzv

theorem AluOp.sameOff (o : AluOp) (a m : Byte) (f : Flags) : Flags.SameOff o.flags (o.fn a m f).2 f := by
  cases o with
  | add => exact f.sameOff_withHnzvc (add8 a m false)
  | adc => exact f.sameOff_withHnzvc (add8 a m f.c)
  | sub => exact f.sameOff_withNzvc (sub8 Config.borrowPolarity a m false)
  | sbc => exact f.sameOff_withNzvc (sub8 Config.borrowPolarity a m f.c)
  | and => exact f.sameOff_withNzv (and8 a m)
  | ora => exact f.sameOff_withNzv (or8 a m)
  | eor => exact f.sameOff_withNzv (xor8 a m)
  | lda => exact f.sameOff_withNzv (mov8 m)

def TestOp.flags : TestOp → Flags
  | .cmp => .nzvc
  | .bit => .nzv

theorem TestOp.sameOff (o : TestOp) (a m : Byte) (f : Flags) : Flags.SameOff o.flags (o.fn a m f) f := by
  cases o with
  | cmp => exact f.sameOff_withNzvc (cmp8 Config.borrowPolarity a m)
  | bit => exact f.sameOff_withNzv (bit8 Config.bitMode a m)

def UnaryOp.flags : UnaryOp → Flags
  | .dec | .inc => .nzv
  | _ => .nzvc

theorem UnaryOp.sameOff (o : UnaryOp) (v : Byte) (f : Flags) : Flags.SameOff o.flags (o.fn v f).2 f := by
  cases o with
  | neg => exact f.sameOff_withNzvc (neg8 Config.borrowPolarity v)
  | com => exact f.sameOff_withNzvc (com8 v)
  | lsr => exact f.sameOff_withNzvc (lsr8 v)
  | ror => exact f.sameOff_withNzvc (ror8 v f.c)
  | asr => exact f.sameOff_withNzvc (asr8 v)
  | asl => exact f.sameOff_withNzvc (asl8 v)
  | rol => exact f.sameOff_withNzvc (rol8 v f.c)
  | dec => exact f.sameOff_withNzv (dec8 v)
  | inc => exact f.sameOff_withNzv (inc8 v)

def RegOp.flags : RegOp → Flags
  | .nop | .tpa | .tsx | .ins | .des | .txs => .none
  | .tap => .all
  | .inx | .dex => { Flags.none with z := true }
  | .clv | .sev => { Flags.none with v := true }
  | .clc | .sec => { Flags.none with c := true }
  | .cli | .sei => { Flags.none with i := true }
  | .sba | .cba | .daa => .nzvc
  | .tab | .tba => .nzv
  | .aba => .hnzvc

theorem RegOp.sameOff (o : RegOp) (s : State) : Flags.SameOff o.flags (o.run s).cc s.cc := by
  cases o with
  | nop => exact .refl _ _
  | tap => exact Flags.sameOff_all _ _
  | tpa => exact .refl _ _
  | inx => exact ⟨fun _ => rfl, fun _ => rfl, fun _ => rfl, nofun, fun _ => rfl, fun _ => rfl⟩
  | dex => exact ⟨fun _ => rfl, fun _ => rfl, fun _ => rfl, nofun, fun _ => rfl, fun _ => rfl⟩
  | clv => exact ⟨fun _ => rfl, fun _ => rfl, fun _ => rfl, fun _ => rfl, nofun, fun _ => rfl⟩
  | sev => exact ⟨fun _ => rfl, fun _ => rfl, fun _ => rfl, fun _ => rfl, nofun, fun _ => rfl⟩
  | clc => exact ⟨fun _ => rfl, fun _ => rfl, fun _ => rfl, fun _ => rfl, fun _ => rfl, nofun⟩
  | sec => exact ⟨fun _ => rfl, fun _ => rfl, fun _ => rfl, fun _ => rfl, fun _ => rfl, nofun⟩
  | cli => exact ⟨fun _ => rfl, nofun, fun _ => rfl, fun _ => rfl, fun _ => rfl, fun _ => rfl⟩
  | sei => exact ⟨fun _ => rfl, nofun, fun _ => rfl, fun _ => rfl, fun _ => rfl, fun _ => rfl⟩
  | sba => exact AluOp.sameOff .sub s.a s.b s.cc
  | cba => exact TestOp.sameOff .cmp s.a s.b s.cc
  | tab => exact s.cc.sameOff_withNzv (mov8 s.a)
  | tba => exact s.cc.sameOff_withNzv (mov8 s.b)
  | daa => exact s.cc.sameOff_withNzvc (daa8 s.a s.cc.c s.cc.h)
  | aba => exact AluOp.sameOff .add s.a s.b s.cc
  | tsx => exact .refl _ _
  | ins => exact .refl _ _
  | des => exact .refl _ _
  | txs => exact .refl _ _

/-- The flags the instructions of a family write. -/
def Family.flags : Family → Flags
  | .alu o _ _ => o.flags
  | .test o _ _ => o.flags
  | .unary o _ => o.flags
  | .tst _ | .clr _ => .nzvc
  | .sta _ _ | .ldx _ | .lds _ | .cpx _ | .stx _ | .sts _ => .nzv
  | .psh _ | .pul _ | .branch _ _ | .jmp _ | .jsr _ | .bsr _ | .rts => .none
  | .swi => { Flags.none with i := true }
  | .rti => .all
  | .reg o => o.flags

/-- The flags an instruction writes, by the spec's flag table (R37). -/
def writtenFlags (i : Instr) : Flags :=
  { h := writesH i, i := writesI i, n := writesN i, z := writesZ i, v := writesV i, c := writesC i }

/-- The spec's flag table says the same of each form. -/
theorem writtenFlags_instr (k : Family) : writtenFlags k.instr = k.flags := by
  cases k with
  | alu o r src => cases o <;> fun_cases Form.add r src <;> rfl
  | test o r src => cases o <;> fun_cases Form.cmp r src <;> rfl
  | unary o t => cases o <;> fun_cases Form.neg t <;> rfl
  | tst t => fun_cases Form.tst t <;> rfl
  | clr t => fun_cases Form.clr t <;> rfl
  | sta r m => fun_cases Form.sta r m <;> rfl
  | ldx src => fun_cases Form.ldx src <;> rfl
  | lds src => fun_cases Form.lds src <;> rfl
  | cpx src => fun_cases Form.cpx src <;> rfl
  | stx m => fun_cases Form.stx m <;> rfl
  | sts m => fun_cases Form.sts m <;> rfl
  | psh r => cases r <;> rfl
  | pul r => cases r <;> rfl
  | branch c rel8 => cases c <;> rfl
  | jmp m => cases m <;> rfl
  | jsr m => cases m <;> rfl
  | bsr rel8 => rfl
  | rts => rfl
  | swi => rfl
  | rti => rfl
  | reg o => cases o <;> rfl

/-- An instruction but WAI leaves alone the flags its family does not write. -/
theorem run_sameFlagsOff (k : Family) (s : State) : Flags.SameOff k.flags (k.run s).cc s.cc := by
  cases k with
  | alu o r src =>
    rw [Family.run, accOp_eq]
    exact o.sameOff _ _ _
  | test o r src =>
    rw [Family.run, accTest_eq]
    exact o.sameOff _ _ _
  | unary o t =>
    rw [Family.run, modifyTarget_eq]
    exact o.sameOff _ _
  | tst t =>
    rw [Family.run, testTarget_eq]
    exact s.cc.sameOff_withNzvc (tst8 (targetByte t s).1)
  | clr t =>
    cases t with
    | acc r => exact s.cc.sameOff_withNzvc clr8
    | mem m => exact s.cc.sameOff_withNzvc clr8
  | sta r m =>
    rw [Family.run, storeAcc_eq]
    exact s.cc.sameOff_withNzv _
  | ldx src =>
    rw [Family.run, loadX_eq]
    exact s.cc.sameOff_withNzv16 _
  | lds src =>
    rw [Family.run, loadSp_eq]
    exact s.cc.sameOff_withNzv16 _
  | cpx src =>
    rw [Family.run, compareX_eq]
    exact s.cc.sameOff_withNzv16 _
  | stx m => exact s.cc.sameOff_withNzv16 (mov16 s.x)
  | sts m => exact s.cc.sameOff_withNzv16 (mov16 s.sp)
  | psh r => exact .refl _ _
  | pul r =>
    rw [Family.run, pullAcc_eq]
    exact .refl _ _
  | branch c rel8 =>
    rw [run_branch_eq]
    exact .refl _ _
  | jmp m => exact .refl _ _
  | jsr m => exact .refl _ _
  | bsr rel8 => exact .refl _ _
  | rts => exact .refl _ _
  | swi =>
    rw [run_swi_eq]
    exact ⟨fun _ => rfl, nofun, fun _ => rfl, fun _ => rfl, fun _ => rfl, fun _ => rfl⟩
  | rti => exact Flags.sameOff_all _ _
  | reg o => exact o.sameOff s

/-- A set of general registers, by its members' bits. -/
structure RegSet where
  a : Bool
  b : Bool
  x : Bool
  sp : Bool

/-- The two states agree on every general register outside the set. -/
structure State.SameRegsOff (w : RegSet) (t s : State) : Prop where
  a : w.a = false → t.a = s.a
  b : w.b = false → t.b = s.b
  x : w.x = false → t.x = s.x
  sp : w.sp = false → t.sp = s.sp

def RegSet.none : RegSet := { a := false, b := false, x := false, sp := false }

def RegSet.acc : Acc → RegSet
  | .a => { RegSet.none with a := true }
  | .b => { RegSet.none with b := true }

def RegSet.target : Target → RegSet
  | .acc r => .acc r
  | .mem _ => .none

def RegOp.regs : RegOp → RegSet
  | .tpa | .sba | .tba | .daa | .aba => .acc .a
  | .tab => .acc .b
  | .inx | .dex | .tsx => { RegSet.none with x := true }
  | .ins | .des | .txs => { RegSet.none with sp := true }
  | _ => .none

/-- The general registers the instructions of a family write. -/
def Family.regs : Family → RegSet
  | .alu _ r _ => .acc r
  | .unary _ t | .clr t => .target t
  | .ldx _ => { RegSet.none with x := true }
  | .lds _ | .psh _ | .jsr _ | .bsr _ | .rts | .swi => { RegSet.none with sp := true }
  | .pul r => { RegSet.acc r with sp := true }
  | .rti => { a := true, b := true, x := true, sp := true }
  | .reg o => o.regs
  | _ => .none

/-- The general registers an instruction writes, by the spec's register table (R22). -/
def writtenRegs (i : Instr) : RegSet :=
  { a := writesA i, b := writesB i, x := writesX i, sp := writesSp i }

/-- The spec's register table says the same of each form. -/
theorem writtenRegs_instr (k : Family) : writtenRegs k.instr = k.regs := by
  cases k with
  | alu o r src => cases o <;> fun_cases Form.add r src <;> rfl
  | test o r src => cases o <;> fun_cases Form.cmp r src <;> rfl
  | unary o t => cases o <;> fun_cases Form.neg t <;> rfl
  | tst t => fun_cases Form.tst t <;> rfl
  | clr t => fun_cases Form.clr t <;> rfl
  | sta r m => fun_cases Form.sta r m <;> rfl
  | ldx src => fun_cases Form.ldx src <;> rfl
  | lds src => fun_cases Form.lds src <;> rfl
  | cpx src => fun_cases Form.cpx src <;> rfl
  | stx m => fun_cases Form.stx m <;> rfl
  | sts m => fun_cases Form.sts m <;> rfl
  | psh r => cases r <;> rfl
  | pul r => cases r <;> rfl
  | branch c rel8 => cases c <;> rfl
  | jmp m => cases m <;> rfl
  | jsr m => cases m <;> rfl
  | bsr rel8 => rfl
  | rts => rfl
  | swi => rfl
  | rti => rfl
  | reg o => cases o <;> rfl

theorem State.SameRegsOff.of_eq (w : RegSet) {t s : State} (ha : t.a = s.a) (hb : t.b = s.b) (hx : t.x = s.x)
    (hsp : t.sp = s.sp) : State.SameRegsOff w t s :=
  ⟨fun _ => ha, fun _ => hb, fun _ => hx, fun _ => hsp⟩

theorem State.sameRegsOff_withAcc (s : State) (r : Acc) (v : Byte) : State.SameRegsOff (.acc r) (s.withAcc r v) s := by
  cases r
  · exact ⟨nofun, fun _ => rfl, fun _ => rfl, fun _ => rfl⟩
  · exact ⟨fun _ => rfl, nofun, fun _ => rfl, fun _ => rfl⟩

theorem State.sameRegsOff_modified (s : State) (t : Target) (v : Byte) :
    State.SameRegsOff (.target t) (s.modified t v) s := by
  cases t with
  | acc r => exact s.sameRegsOff_withAcc r v
  | mem m => exact .of_eq _ rfl rfl rfl rfl

theorem RegOp.sameRegsOff (o : RegOp) (s : State) : State.SameRegsOff o.regs (o.run s) s := by
  cases o with
  | nop => exact .of_eq _ rfl rfl rfl rfl
  | tap => exact .of_eq _ rfl rfl rfl rfl
  | tpa => exact ⟨nofun, fun _ => rfl, fun _ => rfl, fun _ => rfl⟩
  | inx => exact ⟨fun _ => rfl, fun _ => rfl, nofun, fun _ => rfl⟩
  | dex => exact ⟨fun _ => rfl, fun _ => rfl, nofun, fun _ => rfl⟩
  | clv => exact .of_eq _ rfl rfl rfl rfl
  | sev => exact .of_eq _ rfl rfl rfl rfl
  | clc => exact .of_eq _ rfl rfl rfl rfl
  | sec => exact .of_eq _ rfl rfl rfl rfl
  | cli => exact .of_eq _ rfl rfl rfl rfl
  | sei => exact .of_eq _ rfl rfl rfl rfl
  | sba => exact ⟨nofun, fun _ => rfl, fun _ => rfl, fun _ => rfl⟩
  | cba => exact .of_eq _ rfl rfl rfl rfl
  | tab => exact ⟨fun _ => rfl, nofun, fun _ => rfl, fun _ => rfl⟩
  | tba => exact ⟨nofun, fun _ => rfl, fun _ => rfl, fun _ => rfl⟩
  | daa => exact ⟨nofun, fun _ => rfl, fun _ => rfl, fun _ => rfl⟩
  | aba => exact ⟨nofun, fun _ => rfl, fun _ => rfl, fun _ => rfl⟩
  | tsx => exact ⟨fun _ => rfl, fun _ => rfl, nofun, fun _ => rfl⟩
  | ins => exact ⟨fun _ => rfl, fun _ => rfl, fun _ => rfl, nofun⟩
  | des => exact ⟨fun _ => rfl, fun _ => rfl, fun _ => rfl, nofun⟩
  | txs => exact ⟨fun _ => rfl, fun _ => rfl, fun _ => rfl, nofun⟩

/-- A later update of the flags and of the memory side changes no general register. -/
theorem State.SameRegsOff.after {w : RegSet} {t s : State} (h : State.SameRegsOff w t s) (f : Flags) (b : Bus) :
    State.SameRegsOff w { t with cc := f, bus := b } s :=
  ⟨h.a, h.b, h.x, h.sp⟩

/-- An instruction but WAI leaves alone the general registers its family does not write. -/
theorem run_sameRegsOff (k : Family) (s : State) : State.SameRegsOff k.regs (k.run s) s := by
  cases k with
  | alu o r src =>
    rw [Family.run, accOp_eq]
    exact (s.sameRegsOff_withAcc r _).after _ _
  | test o r src =>
    rw [Family.run, accTest_eq]
    exact .of_eq _ rfl rfl rfl rfl
  | unary o t =>
    rw [Family.run, modifyTarget_eq]
    exact (s.sameRegsOff_modified t _).after _ _
  | tst t =>
    rw [Family.run, testTarget_eq]
    exact .of_eq _ rfl rfl rfl rfl
  | clr t =>
    cases t with
    | acc r =>
      rw [Family.run, clearTarget, clearAcc_eq]
      exact (s.sameRegsOff_withAcc r _).after _ _
    | mem m => exact .of_eq _ rfl rfl rfl rfl
  | sta r m =>
    rw [Family.run, storeAcc_eq]
    exact .of_eq _ rfl rfl rfl rfl
  | ldx src =>
    rw [Family.run, loadX_eq]
    exact ⟨fun _ => rfl, fun _ => rfl, nofun, fun _ => rfl⟩
  | lds src =>
    rw [Family.run, loadSp_eq]
    exact ⟨fun _ => rfl, fun _ => rfl, fun _ => rfl, nofun⟩
  | cpx src =>
    rw [Family.run, compareX_eq]
    exact .of_eq _ rfl rfl rfl rfl
  | stx m => exact .of_eq _ rfl rfl rfl rfl
  | sts m => exact .of_eq _ rfl rfl rfl rfl
  | psh r => exact ⟨fun _ => rfl, fun _ => rfl, fun _ => rfl, nofun⟩
  | pul r =>
    rw [Family.run, pullAcc_eq]
    cases r
    · exact ⟨nofun, fun _ => rfl, fun _ => rfl, nofun⟩
    · exact ⟨fun _ => rfl, nofun, fun _ => rfl, nofun⟩
  | branch c rel8 =>
    rw [run_branch_eq]
    exact .of_eq _ rfl rfl rfl rfl
  | jmp m => exact .of_eq _ rfl rfl rfl rfl
  | jsr m => exact ⟨fun _ => rfl, fun _ => rfl, fun _ => rfl, nofun⟩
  | bsr rel8 => exact ⟨fun _ => rfl, fun _ => rfl, fun _ => rfl, nofun⟩
  | rts => exact ⟨fun _ => rfl, fun _ => rfl, fun _ => rfl, nofun⟩
  | swi =>
    rw [run_swi_eq]
    exact ⟨fun _ => rfl, fun _ => rfl, fun _ => rfl, nofun⟩
  | rti => exact ⟨nofun, nofun, nofun, nofun⟩
  | reg o => exact o.sameRegsOff s

end Sys2Proof.Machine
end

section
/-! What every instruction answers, writes and keeps (R22, R37, R41, R108, R148, R369): WAI (R342), then the statements. -/

namespace Sys2Proof.Machine

theorem Pend.or_eq_false_iff (p : Pend) : (p.nmi || p.irq) = false ↔ p = { nmi := false, irq := false } := by
  obtain ⟨nmi, irq⟩ := p
  cases nmi <;> cases irq <;> simp

/-- WAI with nothing pending halts the host's step at its opcode (R138, R342). -/
theorem exec_wai_idle {s : State} (h : s.pend = { nmi := false, irq := false }) : exec .wai s = .next (haltWait s) :=
  if_neg (by rw [(Pend.or_eq_false_iff s.pend).2 h]; exact Bool.false_ne_true)

/-- WAI with a bit pending charges its cost and goes on to the arbiter (R342). -/
theorem exec_wai_pending {s : State} (h : s.pend ≠ { nmi := false, irq := false }) :
    exec .wai s = .next ((charge 9 s).setLoop .afterWait) :=
  if_pos (Bool.eq_true_of_not_eq_false (mt (Pend.or_eq_false_iff s.pend).1 h))

/-- Everything an instruction can do: WAI's halt, WAI's way to the arbiter, or the effect of its family with the charge. -/
theorem exec_cases {i : Instr} {s t : State} (h : exec i s = .next t) :
    (i = .wai ∧ s.pend = { nmi := false, irq := false } ∧ t = haltWait s) ∨
      (i = .wai ∧ s.pend ≠ { nmi := false, irq := false } ∧ t = (charge 9 s).setLoop .afterWait) ∨
      ∃ k : Family, i = k.instr ∧ t = charge k.cost (k.run s) := by
  rcases Instr.eq_wai_or_family i with rfl | ⟨k, rfl⟩
  · by_cases hp : s.pend = { nmi := false, irq := false }
    · rw [exec_wai_idle hp] at h
      exact .inl ⟨rfl, hp, (Host.Outcome.next.inj h).symm⟩
    · rw [exec_wai_pending hp] at h
      exact .inr (.inl ⟨rfl, hp, (Host.Outcome.next.inj h).symm⟩)
  · rw [exec_family] at h
    exact .inr (.inr ⟨k, rfl, (Host.Outcome.next.inj h).symm⟩)

theorem exec_next (i : Instr) (s : State) : ∃ t, exec i s = .next t := by
  rcases Instr.eq_wai_or_family i with rfl | ⟨k, rfl⟩
  · by_cases hp : s.pend = { nmi := false, irq := false }
    · exact ⟨_, exec_wai_idle hp⟩
    · exact ⟨_, exec_wai_pending hp⟩
  · exact ⟨_, exec_family k s⟩

/-- WAI alone moves the point of the run loop, so it is in no family. -/
theorem instr_ne_wai (k : Family) : k.instr ≠ .wai := by
  intro hk
  have h := exec_family k { State.reset with pend := { nmi := true, irq := false } }
  rw [hk, exec_wai_pending (by decide)] at h
  have hloop := congrArg State.loop (Host.Outcome.next.inj h)
  cases hloop.trans (run_loop k _)

/-- Settles O14: an instruction answers a next state, and so does a turn, which is nothing, a halt or an instruction. -/
theorem nothingEverFaults : Obligations.NothingEverFaults := by
  refine ⟨fun s => ?_, exec_next⟩
  rcases step_cases s with ⟨_, h⟩ | ⟨_, t, _, h⟩ | ⟨_, i, t, _, h⟩
  · exact ⟨s, h⟩
  · exact ⟨haltIllegal t, h⟩
  · rw [h]
    exact exec_next i t

/-- Settles O52: WAI writes no flag, and the spec's table holds what each family writes. -/
theorem flagWriters : Obligations.FlagWriters := by
  intro i s t h
  have hoff : Flags.SameOff (writtenFlags i) t.cc s.cc := by
    rcases exec_cases h with ⟨_, _, rfl⟩ | ⟨_, _, rfl⟩ | ⟨k, rfl, rfl⟩
    · exact .refl _ _
    · exact .refl _ _
    · rw [writtenFlags_instr]
      exact run_sameFlagsOff k s
  exact ⟨hoff.h, hoff.i, hoff.n, hoff.z, hoff.v, hoff.c⟩

/-- Settles O53: WAI writes no general register, and the spec's table holds what each family writes. -/
theorem registerWriters : Obligations.RegisterWriters := by
  intro i s t h
  have hoff : State.SameRegsOff (writtenRegs i) t s := by
    rcases exec_cases h with ⟨_, _, rfl⟩ | ⟨_, _, rfl⟩ | ⟨k, rfl, rfl⟩
    · exact .of_eq _ rfl rfl rfl rfl
    · exact .of_eq _ rfl rfl rfl rfl
    · have hrun := run_sameRegsOff k s
      rw [writtenRegs_instr]
      exact ⟨hrun.a, hrun.b, hrun.x, hrun.sp⟩
  exact ⟨hoff.a, hoff.b, hoff.x, hoff.sp⟩

theorem exec_accessesAt {i : Instr} {s t : State} (h : exec i s = .next t) :
    Bus.AccessesAt (storedAt i s) (readAt i s) s.bus t.bus := by
  rcases exec_cases h with ⟨_, _, rfl⟩ | ⟨_, _, rfl⟩ | ⟨k, rfl, rfl⟩
  · exact .refl _
  · exact .refl _
  · obtain ⟨hstored, hread⟩ := accessedAt_instr k s
    rw [hstored, hread]
    exact run_accessesAt k s

/-- Settles O54: an instruction accesses the addresses of the tables alone, and accesses of plain addresses keep the rest. -/
theorem memoryFrame : Obligations.MemoryFrame := by
  intro i s t h hplain
  obtain ⟨⟨hmap, hhandlers, hdev⟩, hmem⟩ := (exec_accessesAt h).frame (List.all_eq_true.1 hplain)
  exact ⟨hmem, fun a ha hp => Bus.read_congr_plain hp hmap (hmem a ha), hmap, hhandlers, hdev⟩

/-- Settles O55: no family reads or writes the control state, of which the latch is a part. -/
theorem pendingLatchIsUntouched : Obligations.PendingLatchIsUntouched := by
  intro i s t h
  rcases exec_cases h with ⟨rfl, _, rfl⟩ | ⟨rfl, _, rfl⟩ | ⟨k, rfl, rfl⟩
  · exact ⟨rfl, fun hne => absurd rfl hne⟩
  · exact ⟨rfl, fun hne => absurd rfl hne⟩
  · refine ⟨run_pend k s, fun _ p => ?_⟩
    have hs : { s with pend := p } = s.withControl { s.control with pend := p } := rfl
    have hrun : { k.run s with pend := p } = (k.run s).withControl { s.control with pend := p } := by
      rw [← run_control k s]
      rfl
    rw [exec_family, hs, run_withControl, ← hrun]
    rfl

theorem two_le_srcCost (src : Src8) : 2 ≤ srcCost src := by
  fun_cases srcCost src <;> simp

theorem two_le_src16Cost (src : Src16) : 2 ≤ src16Cost src := by
  fun_cases src16Cost src <;> simp

theorem two_le_targetCost (t : Target) : 2 ≤ targetCost t := by
  fun_cases targetCost t <;> simp

theorem two_le_storeCost (m : MemMode) : 2 ≤ storeCost m ∧ 2 ≤ store16Cost m := by
  cases m <;> simp [storeCost, store16Cost]

theorem two_le_jumpCost (m : IdxExt) : 2 ≤ jmpCost m ∧ 2 ≤ jsrCost m := by
  cases m <;> simp [jmpCost, jsrCost]

/-- The base cost of every instruction is at least 2 (R108). -/
theorem two_le_cost (k : Family) : 2 ≤ k.cost := by
  cases k with
  | alu o r src => exact two_le_srcCost src
  | test o r src => exact two_le_srcCost src
  | unary o t => exact two_le_targetCost t
  | tst t => exact two_le_targetCost t
  | clr t => exact two_le_targetCost t
  | sta r m => exact (two_le_storeCost m).1
  | ldx src => exact two_le_src16Cost src
  | lds src => exact two_le_src16Cost src
  | cpx src => exact two_le_src16Cost src
  | stx m => exact (two_le_storeCost m).2
  | sts m => exact (two_le_storeCost m).2
  | jmp m => exact (two_le_jumpCost m).1
  | jsr m => exact (two_le_jumpCost m).2
  | reg o => cases o <;> simp [Family.cost, RegOp.cost]
  | _ => simp [Family.cost]

/-- Settles O56: the table's cost is the family's, which the charge takes from the budget; WAI alone ends the step or moves the
point of the run loop. -/
theorem costsAreTheTables : Obligations.CostsAreTheTables := by
  intro i s t h
  rcases exec_cases h with ⟨rfl, hp, rfl⟩ | ⟨rfl, hp, rfl⟩ | ⟨k, rfl, rfl⟩
  · have hcost : 2 ≤ baseCost .wai := by decide
    exact ⟨hcost, rfl, fun hne => absurd hp (hne rfl), fun _ _ => ⟨rfl, rfl⟩, fun _ hne => absurd hp hne, fun _ => rfl⟩
  · have hcost : 2 ≤ baseCost .wai := by decide
    exact ⟨hcost, rfl, fun _ => ⟨rfl, rfl⟩, fun _ he => absurd he hp, fun _ _ => rfl, fun he => absurd (he rfl) hp⟩
  · rw [baseCost_instr]
    have hne := instr_ne_wai k
    refine ⟨two_le_cost k, run_budgetIn k s, fun _ => ⟨?_, run_stop k s⟩, fun he => absurd he hne, fun he => absurd he hne,
      fun _ => run_loop k s⟩
    exact congrArg (· - (k.cost : Int)) (run_budget k s)

end Sys2Proof.Machine
end

section
/-! SUPPORT. The layer the statements about the run loop are proved from: the arbiter, what stands before a turn's instruction, the
ways a turn can go, and what a run of turns keeps (R133, R137, R138, R361). -/

namespace Sys2Proof.Machine

/-- The arbiter leaves nothing to service: of two pending bits the NMI is taken, and its entry masks the IRQ (R361, R366). -/
theorem serviceable_arbitrate (ack : Nat) (s : State) : serviceable (arbitrate ack s) = false := by
  rcases arbitrate_cases ack s with ⟨_, e⟩ | ⟨hnmi, _, _, e⟩ | ⟨h, e⟩
  · rw [e]
    simp [serviceable, State.entered]
  · rw [e]
    simp [serviceable, State.entered, hnmi]
  · rw [e]
    exact h

/-- Where nothing is serviceable, at most a masked IRQ is pending (R361). -/
theorem pend_of_not_serviceable {s : State} (h : serviceable s = false) :
    s.pend = { nmi := false, irq := false } ∨ (s.pend = { nmi := false, irq := true } ∧ s.cc.i = true) := by
  obtain ⟨hnmi, hirq⟩ := Bool.or_eq_false_iff.1 h
  rcases hp : s.pend with ⟨nmi, irq⟩
  rw [hp] at hnmi hirq
  obtain rfl : nmi = false := hnmi
  cases irq with
  | false => exact .inl rfl
  | true => exact .inr ⟨rfl, by simpa using hirq⟩

/-- No bit of the first latch is missing from the second. -/
def Pend.Sub (p q : Pend) : Prop :=
  (p.nmi = true → q.nmi = true) ∧ (p.irq = true → q.irq = true)

theorem Pend.Sub.refl (p : Pend) : Pend.Sub p p := ⟨id, id⟩

theorem Pend.Sub.trans {p q r : Pend} (h : Pend.Sub p q) (k : Pend.Sub q r) : Pend.Sub p r :=
  ⟨k.1 ∘ h.1, k.2 ∘ h.2⟩

/-- What the arbiter and the fetch leave of the state a turn begins in: the next turn would begin at the budget test, the budget
is charged at most, nothing is serviceable, and no stop reason is written (R133, R361). -/
structure Begun (s u : State) : Prop where
  loop : u.loop = .top
  stop : u.stop = s.stop
  budgetIn : u.budgetIn = s.budgetIn
  budget : u.budget ≤ s.budget
  pend : u.pend = (arbitrate (ackCost s.loop) (s.setLoop .top)).pend
  sub : Pend.Sub u.pend s.pend
  serviced : serviceable u = false
  accesses : Bus.Accesses s.bus u.bus

theorem begun_arbitrate (s : State) : Begun s (arbitrate (ackCost s.loop) (s.setLoop .top)) := by
  have hacc := arbitrate_accesses (ackCost s.loop) (s.setLoop .top)
  have hserv := serviceable_arbitrate (ackCost s.loop) (s.setLoop .top)
  rcases arbitrate_cases (ackCost s.loop) (s.setLoop .top) with ⟨_, e⟩ | ⟨_, _, _, e⟩ | ⟨_, e⟩
  · rw [e] at hacc hserv ⊢
    exact ⟨rfl, rfl, rfl, Int.sub_le_self _ (Int.natCast_nonneg _), congrArg State.pend e.symm, ⟨nofun, id⟩, hserv, hacc⟩
  · rw [e] at hacc hserv ⊢
    exact ⟨rfl, rfl, rfl, Int.sub_le_self _ (Int.natCast_nonneg _), congrArg State.pend e.symm, ⟨id, nofun⟩, hserv, hacc⟩
  · rw [e] at hacc hserv ⊢
    exact ⟨rfl, rfl, rfl, le_refl _, congrArg State.pend e.symm, .refl _, hserv, hacc⟩

theorem begun_fetchInstr (s : State) : Begun s (fetchInstr (arbitrate (ackCost s.loop) (s.setLoop .top))).2 := by
  have h := begun_arbitrate s
  have hacc := h.accesses.trans (fetchInstr_accesses _)
  rw [fetchInstr_frame] at hacc ⊢
  exact ⟨h.loop, h.stop, h.budgetIn, h.budget, rfl, h.sub, h.serviced, hacc⟩

/-- Everything a turn can do (R133, R137, R138): nothing after the end; or it begins, and halts at an opcode with no entry, halts
at an idle WAI, goes on to the arbiter from a WAI, or runs an instruction of a family. -/
inductive Turn (s : State) : State → Prop
  | finished (h : ended s = true) : Turn s s
  | illegal {u : State} (h : ended s = false) (hu : Begun s u) : Turn s (haltIllegal u)
  | idle {u : State} (h : ended s = false) (hu : Begun s u) (hp : u.pend = { nmi := false, irq := false }) :
      Turn s (haltWait u)
  | wait {u : State} (h : ended s = false) (hu : Begun s u) (hp : u.pend = { nmi := false, irq := true })
      (hi : u.cc.i = true) : Turn s ((charge 9 u).setLoop .afterWait)
  | run {u : State} (h : ended s = false) (hu : Begun s u) (k : Family) : Turn s (charge k.cost (k.run u))

theorem turn_of_step {s t : State} (h : step s = .next t) : Turn s t := by
  have hbegun := begun_fetchInstr s
  rcases step_cases s with ⟨hend, e⟩ | ⟨hend, u, hu, e⟩ | ⟨hend, i, u, hu, e⟩
  · rw [e] at h
    cases h
    exact .finished hend
  · rw [e] at h
    rw [hu] at hbegun
    cases h
    exact .illegal hend hbegun
  · rw [e] at h
    rw [hu] at hbegun
    rcases exec_cases h with ⟨_, hp, rfl⟩ | ⟨_, hp, rfl⟩ | ⟨k, _, rfl⟩
    · exact .idle hend hbegun hp
    · rcases pend_of_not_serviceable hbegun.serviced with hnone | ⟨hirq, hi⟩
      · exact absurd hnone hp
      · exact .wait hend hbegun hirq hi
    · exact .run hend hbegun k

theorem ended_iff (s : State) : ended s = true ↔ s.loop = .top ∧ s.budget ≤ 0 := by
  simp [ended]

theorem controlWf_iff (s : State) :
    s.controlWf = true ↔
      (s.stop = .none ∨ s.stop = .budgetExhausted ∨ s.budget = 0 ∧ s.loop = .top) ∧
        (s.loop = .top ∨ s.pend = { nmi := false, irq := true } ∧ s.cc.i = true) := by
  simp [State.controlWf, or_assoc]

theorem Turn.wf {s t : State} (h : Turn s t) (hs : s.wf = true) : t.wf = true := by
  cases h with
  | finished => exact hs
  | illegal _ hu => exact State.wf_of_accesses hu.accesses hs
  | idle _ hu => exact State.wf_of_accesses hu.accesses hs
  | wait _ hu => exact State.wf_of_accesses hu.accesses hs
  | run _ hu k => exact State.wf_of_accesses (hu.accesses.trans (run_accessesAt k _).accesses) hs

theorem Turn.budgetIn {s t : State} (h : Turn s t) : t.budgetIn = s.budgetIn := by
  cases h with
  | finished => rfl
  | illegal _ hu => exact hu.budgetIn
  | idle _ hu => exact hu.budgetIn
  | wait _ hu => exact hu.budgetIn
  | run _ hu k => exact (run_budgetIn k _).trans hu.budgetIn

theorem Turn.stop {s t : State} (h : Turn s t) (hs : s.stop ≠ .none) : t.stop ≠ .none := by
  cases h with
  | finished => exact hs
  | illegal => exact nofun
  | idle => exact nofun
  | wait _ hu => exact hu.stop ▸ hs
  | run _ hu k => exact ((run_stop k _).trans hu.stop) ▸ hs

theorem Turn.pend_sub {s t : State} (h : Turn s t) : Pend.Sub t.pend s.pend := by
  cases h with
  | finished => exact .refl _
  | illegal _ hu => exact hu.sub
  | idle _ hu => exact hu.sub
  | wait _ hu => exact hu.sub
  | @run u _ hu k =>
    have hpend : (charge k.cost (k.run u)).pend = u.pend := run_pend k u
    rw [hpend]
    exact hu.sub

theorem Turn.pend_eq {s t : State} (h : Turn s t) (hs : ended s = false) :
    t.pend = (arbitrate (ackCost s.loop) (s.setLoop .top)).pend := by
  cases h with
  | finished hend => rw [hs] at hend; cases hend
  | illegal _ hu => exact hu.pend
  | idle _ hu => exact hu.pend
  | wait _ hu => exact hu.pend
  | run _ hu k => exact (run_pend k _).trans hu.pend

/-- In a run in order, a stop reason that names a halt is found only where the run is over (R137, R138). -/
theorem stop_of_not_ended {s : State} (h : s.controlWf = true) (hs : ended s = false) :
    s.stop = .none ∨ s.stop = .budgetExhausted := by
  rcases ((controlWf_iff s).1 h).1 with h1 | h1 | ⟨hbudget, hloop⟩
  · exact .inl h1
  · exact .inr h1
  · rw [(ended_iff s).2 ⟨hloop, hbudget.le⟩] at hs
    cases hs

theorem Turn.controlWf {s t : State} (h : Turn s t) (hs : s.controlWf = true) : t.controlWf = true := by
  rw [controlWf_iff]
  cases h with
  | finished => exact (controlWf_iff s).1 hs
  | illegal _ hu => exact ⟨.inr (.inr ⟨rfl, hu.loop⟩), .inl hu.loop⟩
  | idle _ hu => exact ⟨.inr (.inr ⟨rfl, hu.loop⟩), .inl hu.loop⟩
  | wait hend hu hp hi =>
    refine ⟨?_, .inr ⟨hp, hi⟩⟩
    rcases stop_of_not_ended hs hend with h1 | h1
    · exact .inl (hu.stop.trans h1)
    · exact .inr (.inl (hu.stop.trans h1))
  | run hend hu k =>
    refine ⟨?_, .inl ((run_loop k _).trans hu.loop)⟩
    have hstop := (run_stop k _).trans hu.stop
    rcases stop_of_not_ended hs hend with h1 | h1
    · exact .inl (hstop.trans h1)
    · exact .inr (.inl (hstop.trans h1))

/-- A turn that begins ends the run or takes at least 2 from the budget (R141). -/
theorem Turn.progress {s t : State} (h : Turn s t) (hs : ended s = false) : ended t = true ∨ t.budget ≤ s.budget - 2 := by
  cases h with
  | finished hend => rw [hs] at hend; cases hend
  | illegal _ hu => exact .inl ((ended_iff _).2 ⟨hu.loop, le_refl _⟩)
  | idle _ hu => exact .inl ((ended_iff _).2 ⟨hu.loop, le_refl _⟩)
  | @wait u _ hu =>
    have hbudget : ((charge 9 u).setLoop .afterWait).budget = u.budget - 9 := rfl
    have := hu.budget
    exact .inr (by omega)
  | @run u _ hu k =>
    have hbudget : (charge k.cost (k.run u)).budget = u.budget - k.cost := congrArg (· - (k.cost : Int)) (run_budget k u)
    have := hu.budget
    have := two_le_cost k
    exact .inr (by omega)

end Sys2Proof.Machine
end

section
/-! The run loop (R130 to R139, R361 to R368): the statements about one turn. -/

namespace Sys2Proof.Machine

/-- Settles O50: whichever way a turn goes, it makes routed accesses alone, and it leaves the loop at the budget test unless it is
a WAI with a masked IRQ pending. -/
theorem stepKeepsWellFormed : Obligations.StepKeepsWellFormed := by
  intro s t h
  have hturn := turn_of_step h
  exact ⟨hturn.wf, hturn.controlWf, hturn.stop, hturn.budgetIn⟩

/-- Where bytes stand depends on the memory side alone. -/
theorem State.storesAt.of_bus_eq {s t : State} {a : Word} {vs : List Byte} (h : s.storesAt a vs) (e : t.bus = s.bus) :
    t.storesAt a vs := by
  induction vs generalizing a with
  | nil => trivial
  | cons v vs ih =>
    obtain ⟨hk, hv, hs⟩ := h
    exact ⟨e ▸ hk, e ▸ hv, ih hs⟩

/-- Where the routed reads from the `pc` the arbiter leaves give an instruction's bytes, the turn runs that instruction. -/
theorem step_of_fetched {i : Instr} {s t : State} (h : ended s = false)
    (ht : arbitrate (ackCost s.loop) { s with loop := .top } = t)
    (hbytes : (t.bus.fetched t.pc (encode i).length).1 = encode i) :
    step s = exec i
      { t with
        pc := t.pc + BitVec.ofNat 16 (encode i).length, bus := (t.bus.fetched t.pc (encode i).length).2 } := by
  have hsetLoop : s.setLoop .top = { s with loop := .top } := rfl
  simp only [step, h, hsetLoop, ht, fetchInstr_of_fetched hbytes, Bool.false_eq_true, if_false]

/-- The same where the bytes stand in RAM or ROM: the reads change nothing (R74). -/
theorem step_of_storesAt {i : Instr} {s t : State} (h : ended s = false)
    (ht : arbitrate (ackCost s.loop) { s with loop := .top } = t) (hbytes : t.storesAt t.pc (encode i)) :
    t.bus.fetched t.pc (encode i).length = (encode i, t.bus) ∧
      step s = exec i { t with pc := t.pc + BitVec.ofNat 16 (encode i).length } := by
  have hfetched := State.fetched_of_storesAt hbytes
  refine ⟨hfetched, ?_⟩
  rw [step_of_fetched h ht (congrArg Prod.fst hfetched), hfetched]

/-- Settles O11: with nothing to service the arbiter leaves the state alone, so the fetch is from the turn's own `pc`. -/
theorem stepRunsTheDecodedInstruction : Obligations.StepRunsTheDecodedInstruction := by
  intro i s _ hend hserv r
  have ht : arbitrate (ackCost s.loop) { s with loop := .top } = { s with loop := .top } :=
    arbitrate_of_not_serviceable (s := { s with loop := .top }) _ hserv
  exact ⟨step_of_fetched hend ht, fun hbytes => step_of_storesAt hend ht (hbytes.of_bus_eq rfl)⟩

/-- Settles O12: the fetch is from the `pc` the arbiter leaves, in the same turn. -/
theorem servicedStepRunsTheHandler : Obligations.ServicedStepRunsTheHandler := by
  intro i s _ hend _ t r
  exact ⟨step_of_fetched hend rfl, step_of_storesAt hend rfl⟩

/-- An opcode byte with an entry begins an instruction, whatever bytes follow it (R104, R110). -/
theorem exists_fetched_instr {b : Bus} {a : Word} (h : optable (b.read a).1 ≠ none) :
    ∃ i, (b.fetched a (encode i).length).1 = encode i := by
  obtain ⟨e, he⟩ := Option.ne_none_iff_exists'.1 h
  cases e with
  | inh i =>
    refine ⟨i, ?_⟩
    have hi : encode i = [(b.read a).1] := encode_instr he ()
    rw [hi]
    rfl
  | byte f =>
    let v := ((b.read a).2.read (a + 1#16)).1
    refine ⟨f v, ?_⟩
    have hi : encode (f v) = [(b.read a).1, v] := encode_instr he v
    rw [hi]
    rfl
  | word f =>
    let q := (b.read a).2.read (a + 1#16)
    let w := wordOfBytes Config.endian q.1 (q.2.read (a + 1#16 + 1#16)).1
    refine ⟨f w, ?_⟩
    have hi : encode (f w) = encodeWord (b.read a).1 w := encode_instr he w
    rw [hi, encodeWord_wordOfBytes]
    rfl

/-- Settles O13: with no entry the fetch stops after the opcode byte, and the halt writes the budget and the stop reason. -/
theorem illegalOpcodeHaltsTheStep : Obligations.IllegalOpcodeHaltsTheStep := by
  intro s hend t
  have hsetLoop : arbitrate (ackCost s.loop) (s.setLoop .top) = t := rfl
  refine ⟨fun h => ?_, exists_fetched_instr, fun h => ?_, Bus.read_plain, fun h => ?_⟩
  · simp only [step, hend, hsetLoop, fetchInstr, fetch8_eq, h, Bool.false_eq_true, if_false]
    rfl
  · exact arbitrate_of_not_serviceable (s := { s with loop := .top }) _ h
  · simp only [Bus.read, h]
    rfl

/-- Settles O15: the three cases of the arbiter. -/
theorem arbiterPriority : Obligations.ArbiterPriority := by
  intro s ack
  refine ⟨fun hnmi => ?_, fun hnmi hirq hi => ?_, fun hnmi h => arbitrate_of_not_serviceable ack ?_⟩
  · rw [arbitrate, if_pos hnmi, enterInterrupt_eq]
    rfl
  · rw [arbitrate, if_neg (by simp [hnmi]), if_pos (by simp [hirq, hi]), enterInterrupt_eq]
    exact congrArg (fun nmi => (s.entered Config.vecIrq ack).setPend { nmi := nmi, irq := false }) hnmi
  · rcases h with h | h
    · simp [serviceable, hnmi, h]
    · simp [serviceable, hnmi, h]

/-- Settles O48: the two cases of WAI, and the two costs the arbiter charges. -/
theorem waitForInterrupt : Obligations.WaitForInterrupt := by
  intro s
  exact ⟨rfl, exec_wai_idle, exec_wai_pending, rfl, rfl, rfl⟩

end Sys2Proof.Machine
end

section
/-! The host's step (R41, R133, R139, R141): what a run of turns keeps, then the statements. -/

namespace Sys2Proof.Machine

/-- So many turns, as the machine's own runner takes them, lead from one state to the other. -/
def RunsTo (n : Nat) (s t : State) : Prop :=
  Sys2Proof.core.run n s = .next t

theorem runsTo_zero (s t : State) : RunsTo 0 s t ↔ s = t :=
  ⟨Host.Outcome.next.inj, congrArg Host.Outcome.next⟩

theorem runsTo_succ {s u : State} (h : step s = .next u) (n : Nat) (t : State) : RunsTo (n + 1) s t ↔ RunsTo n u t := by
  have hrun : Sys2Proof.core.run (n + 1) s = Sys2Proof.core.run n u := by
    have hcore : Sys2Proof.core.step s = .next u := h
    simp only [Host.Core.run, hcore]
  rw [RunsTo, hrun, RunsTo]

/-- A run of turns always answers a next state (R369). -/
theorem exists_runsTo (n : Nat) (s : State) : ∃ t, RunsTo n s t := by
  induction n generalizing s with
  | zero => exact ⟨s, rfl⟩
  | succ n ih =>
    obtain ⟨u, hu⟩ := nothingEverFaults.1 s
    obtain ⟨t, ht⟩ := ih u
    exact ⟨t, (runsTo_succ hu n t).2 ht⟩

/-- What a turn keeps, a run keeps. -/
theorem RunsTo.invariant {P : State → Prop} (hturn : ∀ {s t}, Turn s t → P s → P t) {n : Nat} {s t : State}
    (h : RunsTo n s t) (hs : P s) : P t := by
  induction n generalizing s with
  | zero => exact (runsTo_zero s t).1 h ▸ hs
  | succ n ih =>
    obtain ⟨u, hu⟩ := nothingEverFaults.1 s
    exact ih ((runsTo_succ hu n t).1 h) (hturn (turn_of_step hu) hs)

/-- A run that is over stays where it is (R59, R133). -/
theorem runsTo_of_ended {s : State} (h : ended s = true) (n : Nat) (t : State) : RunsTo n s t ↔ s = t := by
  have hstep : step s = .next s := if_pos h
  induction n with
  | zero => exact runsTo_zero s t
  | succ n ih => exact (runsTo_succ hstep n t).trans ih

theorem runLoop_of_ended {s : State} (h : ended s = true) (n : Nat) : runLoop n s = some s := by
  cases n <;> exact if_pos h

theorem runLoop_succ {s u : State} (h : ended s = false) (hu : step s = .next u) (n : Nat) :
    runLoop (n + 1) s = runLoop n u := by
  simp only [runLoop, h, hu, Bool.false_eq_true, if_false]

/-- The loop of the host's step is the run of as many turns, where that is over (R133). -/
theorem runLoop_eq_some_iff (n : Nat) (s t : State) : runLoop n s = some t ↔ RunsTo n s t ∧ ended t = true := by
  induction n generalizing s with
  | zero =>
    rw [runsTo_zero]
    cases hs : ended s with
    | true =>
      rw [runLoop_of_ended hs, Option.some.injEq]
      exact ⟨fun e => ⟨e, e ▸ hs⟩, And.left⟩
    | false =>
      have hloop : runLoop 0 s = none := if_neg (by rw [hs]; exact Bool.false_ne_true)
      rw [hloop]
      refine ⟨nofun, ?_⟩
      rintro ⟨rfl, ht⟩
      rw [hs] at ht
      cases ht
  | succ n ih =>
    cases hs : ended s with
    | true =>
      rw [runLoop_of_ended hs, runsTo_of_ended hs, Option.some.injEq]
      exact ⟨fun e => ⟨e, e ▸ hs⟩, And.left⟩
    | false =>
      obtain ⟨u, hu⟩ := nothingEverFaults.1 s
      rw [runLoop_succ hs hu, runsTo_succ hu, ih]

/-- A run that is not over has charged at least 2 for each turn (R141). -/
theorem RunsTo.progress {n : Nat} {s t : State} (h : RunsTo n s t) : ended t = true ∨ t.budget ≤ s.budget - 2 * n := by
  induction n generalizing s with
  | zero =>
    obtain rfl := (runsTo_zero s t).1 h
    exact .inr (by simp)
  | succ n ih =>
    obtain ⟨u, hu⟩ := nothingEverFaults.1 s
    cases hs : ended s with
    | true =>
      obtain rfl := (runsTo_of_ended hs _ t).1 h
      exact .inl hs
    | false =>
      have hrest := (runsTo_succ hu n t).1 h
      rcases (turn_of_step hu).progress hs with hend | hbudget
      · obtain rfl := (runsTo_of_ended hend n t).1 hrest
        exact .inl hend
      · rcases ih hrest with hend | hle
        · exact .inl hend
        · exact .inr (by push_cast; omega)

theorem stepTransaction_eq_some_iff {fuel : Nat} {pending : BitVec 2} {budget n : Int} {s t : State} :
    stepTransaction fuel pending budget s = some (n, t) ↔
      RunsTo fuel (beginStep pending budget s) t ∧ ended t = true ∧ n = cyclesConsumed t := by
  simp only [stepTransaction, Option.map_eq_some_iff, Prod.mk.injEq]
  constructor
  · rintro ⟨u, hu, rfl, rfl⟩
    obtain ⟨hrun, hend⟩ := (runLoop_eq_some_iff _ _ _).1 hu
    exact ⟨hrun, hend, rfl⟩
  · rintro ⟨hrun, hend, rfl⟩
    exact ⟨t, (runLoop_eq_some_iff _ _ _).2 ⟨hrun, hend⟩, rfl, rfl⟩

theorem controlWf_beginStep (pending : BitVec 2) (budget : Int) (s : State) :
    (beginStep pending budget s).controlWf = true :=
  (controlWf_iff _).2 ⟨.inr (.inl rfl), .inl rfl⟩

/-- As many turns as the budget end the step, or the last was a WAI with a masked IRQ pending (R141, log 15). -/
theorem ended_or_waiting {pending : BitVec 2} {budget : Int} {s t : State}
    (h : RunsTo budget.toNat (beginStep pending budget s) t) :
    ended t = true ∨ t.loop = .afterWait ∧ t.pend = { nmi := false, irq := true } ∧ t.cc.i = true := by
  have hwf : t.controlWf = true := h.invariant Turn.controlWf (controlWf_beginStep pending budget s)
  rcases h.progress with hend | hle
  · exact .inl hend
  · have hbudget : t.budget ≤ 0 := by
      have hbegin : (beginStep pending budget s).budget = budget := rfl
      omega
    cases hloop : t.loop with
    | top => exact .inl ((ended_iff t).2 ⟨hloop, hbudget⟩)
    | afterWait =>
      rcases ((controlWf_iff t).1 hwf).2 with htop | hwait
      · rw [hloop] at htop
        cases htop
      · exact .inr ⟨rfl, hwait⟩

theorem Pend.Sub.mask_and {p : Pend} {m : BitVec 2} (h : Pend.Sub p (Pend.ofMask m)) : p.mask &&& m = p.mask := by
  have hbits : ∀ (nmi irq : Bool) (m : BitVec 2), (nmi = true → m.getLsbD 1 = true) → (irq = true → m.getLsbD 0 = true) →
      (BitVec.ofBool nmi ++ BitVec.ofBool irq) &&& m = BitVec.ofBool nmi ++ BitVec.ofBool irq := by decide
  exact hbits p.nmi p.irq m h.1 h.2

theorem Pend.Sub.eq_none {p : Pend} (h : Pend.Sub p { nmi := false, irq := false }) : p = { nmi := false, irq := false } := by
  rw [← Pend.or_eq_false_iff, Bool.or_eq_false_iff]
  exact ⟨Bool.eq_false_of_not_eq_true (mt h.1 Bool.false_ne_true), Bool.eq_false_of_not_eq_true (mt h.2 Bool.false_ne_true)⟩

theorem Turn.pend_none {s t : State} (h : Turn s t) (hs : s.pend = { nmi := false, irq := false }) :
    t.pend = { nmi := false, irq := false } :=
  Pend.Sub.eq_none (hs ▸ h.pend_sub)

theorem pend_mask_toNat (p : Pend) : p.mask.toNat = 2 * p.nmi.toNat + p.irq.toNat := by
  obtain ⟨nmi, irq⟩ := p
  cases nmi <;> cases irq <;> rfl

/-- Settles O59: a run keeps the control state in order, so a halt leaves the budget 0; a run that is over for no halt has a budget
that is not positive; and a turn sets no bit of the latch. -/
theorem stepResultByStopReason : Obligations.StepResultByStopReason := by
  intro fuel pending budget n s t
  refine ⟨rfl, pend_mask_toNat t.pend, fun h => ?_⟩
  obtain ⟨hrun, hend, rfl⟩ := stepTransaction_eq_some_iff.1 h
  obtain ⟨_, hbudget⟩ := (ended_iff t).1 hend
  have hin : t.budgetIn = budget := hrun.invariant (P := fun u => u.budgetIn = budget) (fun hu e => hu.budgetIn.trans e) rfl
  have hwf : t.controlWf = true := hrun.invariant Turn.controlWf (controlWf_beginStep pending budget s)
  have hstop : t.stop ≠ .none := hrun.invariant (P := fun u => u.stop ≠ .none) Turn.stop nofun
  have hpend : Pend.Sub t.pend (Pend.ofMask pending) :=
    hrun.invariant (P := fun u => Pend.Sub u.pend (Pend.ofMask pending)) (fun hu hs => hu.pend_sub.trans hs) (.refl _)
  have hn : cyclesConsumed t = budget - t.budget := congrArg (· - t.budget) hin
  refine ⟨hin, hn, fun hle => ?_, fun hhalt => ?_, fun _ => ?_, hstop, hpend.mask_and⟩
  · have hover : ended (beginStep pending budget s) = true := (ended_iff _).2 ⟨rfl, hle⟩
    obtain rfl := (runsTo_of_ended hover fuel t).1 hrun
    exact ⟨hn.trans (sub_self budget), rfl⟩
  · rcases ((controlWf_iff t).1 hwf).1 with h1 | h1 | ⟨hzero, _⟩
    · exact absurd h1 hstop
    · rw [h1] at hhalt
      rcases hhalt with h2 | h2 <;> cases h2
    · rw [hn, hzero, sub_zero]
  · omega

/-- With an NMI or an unmasked IRQ alone pending, the first turn services it and nothing is pending after it (R361, R365). -/
theorem Turn.pend_of_serviced {s t : State} (h : Turn s t) (hs : ended s = false)
    (hp : s.pend = { nmi := true, irq := false } ∨ s.pend = { nmi := false, irq := true } ∧ s.cc.i = false) :
    t.pend = { nmi := false, irq := false } := by
  rw [h.pend_eq hs]
  rcases hp with hp | ⟨hp, hi⟩
  · simp [arbitrate, hp]
  · simp [arbitrate, hp, hi]

/-- With a budget that lets the first turn begin, such a step services its interrupt, and nothing is pending at its end. -/
theorem RunsTo.pend_of_serviced {pending : BitVec 2} {budget : Int} {s t : State}
    (h : RunsTo budget.toNat (beginStep pending budget s) t) (hbudget : 0 < budget)
    (hp : pending = 0b10#2 ∨ pending = 0b01#2 ∧ s.cc.i = false) : t.pend = { nmi := false, irq := false } := by
  obtain ⟨n, hn⟩ : ∃ n, budget.toNat = n + 1 := ⟨budget.toNat - 1, by omega⟩
  obtain ⟨u, hu⟩ := nothingEverFaults.1 (beginStep pending budget s)
  rw [hn] at h
  have hbegin : ended (beginStep pending budget s) = false := by
    rw [← Bool.not_eq_true, ended_iff]
    exact fun hend => absurd hend.2 (not_le.2 hbudget)
  refine ((runsTo_succ hu n t).1 h).invariant (P := fun s => s.pend = { nmi := false, irq := false }) Turn.pend_none ?_
  refine (turn_of_step hu).pend_of_serviced hbegin ?_
  rcases hp with rfl | ⟨rfl, hi⟩
  · exact .inl rfl
  · exact .inr ⟨rfl, hi⟩

/-- Settles O60: with nothing pending no WAI waits, and an interrupt that is serviced leaves nothing pending. -/
theorem stepWithNothingPendingEnds : Obligations.StepWithNothingPendingEnds := by
  intro pending budget s
  obtain ⟨t, hrun⟩ := exists_runsTo budget.toNat (beginStep pending budget s)
  have hends : ended t = true → ∃ n t, stepTransaction budget.toNat pending budget s = some (n, t) :=
    fun hend => ⟨_, t, stepTransaction_eq_some_iff.2 ⟨hrun, hend, rfl⟩⟩
  refine ⟨fun hp => ?_, (ended_or_waiting hrun).imp hends fun hwait => ⟨t, hrun, hwait⟩⟩
  have hpend : pending = 0b00#2 ∨ 0 < budget → t.pend = { nmi := false, irq := false } := by
    intro h
    rcases hp with rfl | hp
    · exact hrun.invariant (P := fun s => s.pend = { nmi := false, irq := false }) Turn.pend_none rfl
    · refine hrun.pend_of_serviced (h.resolve_left ?_) hp
      rcases hp with rfl | ⟨rfl, _⟩
      · decide
      · decide
  have hend : ended t = true := by
    by_cases hbudget : 0 < budget
    · refine (ended_or_waiting hrun).resolve_right fun hwait => ?_
      rw [hpend (.inr hbudget)] at hwait
      cases hwait.2.1
    · have hover : ended (beginStep pending budget s) = true := (ended_iff _).2 ⟨rfl, not_lt.1 hbudget⟩
      obtain rfl := (runsTo_of_ended hover _ t).1 hrun
      exact hover
  exact ⟨_, t, stepTransaction_eq_some_iff.2 ⟨hrun, hend, rfl⟩, hpend⟩

end Sys2Proof.Machine
end

section
/-! SUPPORT. The layer the statements about decimal adjust and about 16-bit loads, stores and compares are proved from: the flag rule
of a word (R17, R183), DAA in the arithmetic terms of R177, and the branches after a compare. -/

namespace Sys2Proof.Machine

theorem word_getLsbD_fifteen (w : Word) : w.getLsbD 15 = w.msb :=
  (BitVec.msb_eq_getLsbD_last w).symm

/-- The flag rule of a 16-bit load or store (R17, R206): `N`, `Z` from the word, `V` cleared, the others kept. -/
theorem Flags.withNzv16_mov16 (f : Flags) (w : Word) :
    f.withNzv16 (mov16 w) = { f with n := w.msb, z := w == 0#16, v := false } := by
  simp only [Flags.withNzv16, mov16, word_getLsbD_fifteen]

theorem word_msb_eq_decide (x : Word) : x.msb = decide (32768 ≤ x.toNat) := by
  simpa using BitVec.msb_eq_decide x

theorem word_toInt (x : Word) : x.toInt = if 32768 ≤ x.toNat then (x.toNat : Int) - 65536 else x.toNat := by
  rw [BitVec.toInt_eq_toNat_cond]
  split <;> split <;> omega

/-- The flags of CPX (R183): those of the true difference of the two words. -/
theorem sub16_eq (a b : Word) :
    sub16 a b =
      { n := (a - b).msb, z := decide (a = b)
        v := decide (a.toInt - b.toInt < -32768 ∨ 32767 < a.toInt - b.toInt) } := by
  have ha := a.isLt
  have hb := b.isLt
  have hs : (BitVec.ofInt 32 ((a.toNat : Int) - b.toNat)).toNat = (a.toNat + 4294967296 - b.toNat) % 4294967296 := by
    rw [BitVec.toNat_ofInt]
    omega
  have hr : (BitVec.ofInt 32 ((a.toNat : Int) - b.toNat)).setWidth 16 = a - b := by
    apply BitVec.eq_of_toNat_eq
    rw [BitVec.toNat_setWidth, hs, BitVec.toNat_sub]
    omega
  have hz : (a - b == 0x0000#16) = decide (a = b) := by
    rw [beq_eq_decide, decide_eq_decide]
    constructor
    · intro h
      bv_omega
    · rintro rfl
      bv_omega
  simp only [sub16, hr, hz]
  refine Nzv16.mk.injEq .. ▸ ⟨?_, rfl, ?_⟩
  · rw [getLsbD_eq_decide, hs, word_msb_eq_decide, BitVec.toNat_sub, decide_eq_decide]
    omega
  · simp only [getLsbD_eq_decide, hs, word_toInt]
    refine xor_decide₄ _ _ _ _ _ ?_
    by_cases lt : a.toNat < b.toNat
    · split <;> split <;> omega
    · split <;> split <;> omega

/-- DAA as R177 has it: the correction added, the flags of the sum, Carry set but never cleared. -/
theorem unaryDaa_eq (a : Byte) (f : Flags) :
    unaryDaa a f =
      let t := a.toNat + daaCorrection a f.c f.h
      (BitVec.ofNat 8 t,
        { f with n := decide (128 ≤ t % 256), z := decide (t % 256 = 0), v := false, c := f.c || decide (255 < t) }) := by
  have ha := a.isLt
  have hcorrection : daaCorrection a f.c f.h ≤ 102 := by
    simp only [daaCorrection]
    split <;> split <;> omega
  have hr : (BitVec.ofNat 16 (a.toNat + daaCorrection a f.c f.h)).setWidth 8 =
      BitVec.ofNat 8 (a.toNat + daaCorrection a f.c f.h) := by
    apply BitVec.eq_of_toNat_eq
    rw [BitVec.toNat_setWidth, BitVec.toNat_ofNat, BitVec.toNat_ofNat]
    omega
  simp only [unaryDaa, daa8, Flags.withNzvc, hr, getLsbD_eq_decide, BitVec.toNat_ofNat, beq_eq_decide, ← BitVec.toNat_inj]
  have ht : a.toNat + daaCorrection a f.c f.h < 512 := by omega
  generalize a.toNat + daaCorrection a f.c f.h = t at ht ⊢
  refine Prod.ext rfl (Flags.mk.injEq .. ▸ ⟨rfl, rfl, ?_, ?_, rfl, congrArg (f.c || ·) ?_⟩)
  · rw [decide_eq_decide]; omega
  · rfl
  · rw [decide_eq_decide]; omega

theorem bne_decide (p q t : Prop) [Decidable p] [Decidable q] [Decidable t] (h : t ↔ ¬(p ↔ q)) :
    (decide p != decide q) = decide t := by
  by_cases hp : p <;> by_cases hq : q <;> simp_all

/-- The signed order after a compare: the difference's sign and its overflow disagree exactly where the first is less (R323). -/
theorem differenceFlags_lt (f : Flags) (a m : Byte) :
    ((differenceFlags f a m false).2.n != (differenceFlags f a m false).2.v) = decide (a.toInt < m.toInt) := by
  have ha := a.isLt
  have hm := m.isLt
  simp only [differenceFlags, overflows8, byte_msb_eq_decide, byte_toInt, BitVec.toNat_ofNat, Bool.toNat_false]
  refine bne_decide _ _ _ ?_
  by_cases lt : a.toNat < m.toNat
  · split <;> split <;> omega
  · split <;> split <;> omega

theorem differenceFlags_z (f : Flags) (a m : Byte) : (differenceFlags f a m false).2.z = decide (a = m) := by
  have ha := a.isLt
  have hm := m.isLt
  simp only [differenceFlags, beq_eq_decide, decide_eq_decide, ← BitVec.toNat_inj, BitVec.toNat_ofNat, Bool.toNat_false]
  omega

theorem differenceFlags_c (f : Flags) (a m : Byte) : (differenceFlags f a m false).2.c = decide (a.toNat < m.toNat) := rfl

theorem toNat_decide (p : Prop) [Decidable p] : (decide p).toNat = if p then 1 else 0 := by
  by_cases h : p <;> simp [h]

/-- The purpose of DAA (R177) in numbers: `x` is the binary sum of two packed-BCD bytes and a carry, `corrected` what its byte
becomes with the correction, driven by the sum's half carry and carry. -/
theorem bcd_sum_corrected {a m c : Nat} (ha : a / 16 ≤ 9 ∧ a % 16 ≤ 9) (hm : m / 16 ≤ 9 ∧ m % 16 ≤ 9) (hc : c ≤ 1) {x corrected : Nat}
    (hx : x = a + m + c)
    (ht : corrected = x % 256 + ((if 9 < x % 256 % 16 ∨ 15 < a % 16 + m % 16 + c then 6 else 0) +
      if (8 < x % 256 / 16 ∧ 9 < x % 256 % 16) ∨ 9 < x % 256 / 16 ∨ 255 < x then 96 else 0)) :
    (corrected % 256 / 16 ≤ 9 ∧ corrected % 256 % 16 ≤ 9) ∧
      10 * (corrected % 256 / 16) + corrected % 256 % 16 + 100 * (if 255 < x ∨ 255 < corrected then 1 else 0) =
        10 * (a / 16) + a % 16 + (10 * (m / 16) + m % 16) + c := by
  split at ht <;> split at ht <;> split <;> omega

/-- Added to the binary sum of two packed-BCD bytes, the correction of DAA makes the decimal sum (R177, R241). -/
theorem bcdValue_daa_sum (f : Flags) {a m : Byte} (ha : isBcd a = true) (hm : isBcd m = true) :
    let sum := sumFlags f a m f.c
    let adjusted := unaryDaa sum.1 sum.2
    isBcd adjusted.1 = true ∧ bcdValue adjusted.1 + 100 * adjusted.2.c.toNat = bcdValue a + bcdValue m + f.c.toNat := by
  simp only [isBcd, Bool.and_eq_true, decide_eq_true_eq] at ha hm
  have hsum := bcd_sum_corrected ha hm f.c.toNat_le rfl rfl
  simp only [unaryDaa_eq, sumFlags, daaCorrection, isBcd, bcdValue, BitVec.toNat_ofNat, Bool.and_eq_true, decide_eq_true_eq,
    ← Bool.decide_or, toNat_decide]
  exact hsum

end Sys2Proof.Machine
end

section
/-! Decimal adjust (R251), the 16-bit loads, stores and compare (R206 to R209, R253), the flags as a byte (R212, R213), the clears
(R218), and the branches after a compare: the statements. -/

namespace Sys2Proof.Machine

/-- The opcode bytes of LDX and LDS (R206, R207). -/
theorem encode_ldx (src : Src16) : encode (Form.ldx src) = src16Bytes 0xCE#8 0xDE#8 0xEE#8 0xFE#8 src := by
  fun_cases Form.ldx src <;> rfl

theorem encode_lds (src : Src16) : encode (Form.lds src) = src16Bytes 0x8E#8 0x9E#8 0xAE#8 0xBE#8 src := by
  fun_cases Form.lds src <;> rfl

theorem encode_cpx (src : Src16) : encode (Form.cpx src) = src16Bytes 0x8C#8 0x9C#8 0xAC#8 0xBC#8 src := by
  fun_cases Form.cpx src <;> rfl

theorem encode_stx (m : MemMode) : encode (Form.stx m) = memBytes 0xDF#8 0xEF#8 0xFF#8 m := by
  fun_cases Form.stx m <;> rfl

theorem encode_sts (m : MemMode) : encode (Form.sts m) = memBytes 0x9F#8 0xAF#8 0xBF#8 m := by
  fun_cases Form.sts m <;> rfl

/-- Settles O32: the correction and the flags are those of R177. -/
theorem decimalAdjust : Obligations.DecimalAdjust := by
  intro s
  refine ⟨rfl, ?_⟩
  have hdaa : exec .daa s = .next (charge 2 (modifyTarget unaryDaa (.acc .a) s)) := rfl
  rw [hdaa, charge_modifyTarget, unaryDaa_eq]
  simp only [daaCorrection, ← Nat.add_assoc]
  rfl

/-- Settles O19: every form is one load of the operand, whose flags are those of the word. -/
theorem loadIndexAndStackPointer : Obligations.LoadIndexAndStackPointer := by
  intro src s
  refine ⟨encode_ldx src, encode_lds src, ?_, ?_⟩
  · rw [exec_ldx, loadX_eq, Flags.withNzv16_mov16, charge_eq]
  · rw [exec_lds, loadSp_eq, Flags.withNzv16_mov16, charge_eq]

/-- Settles O20: every form is one store of the word, whose flags are those of the word whatever the writes do. -/
theorem storeIndexAndStackPointer : Obligations.StoreIndexAndStackPointer := by
  intro m s
  refine ⟨encode_stx m, encode_sts m, ?_, ?_⟩
  · rw [exec_stx, storeWord_eq, Flags.withNzv16_mov16, charge_eq]
  · rw [exec_sts, storeWord_eq, Flags.withNzv16_mov16, charge_eq]

/-- Settles O34: the flags of the true difference; the register stays. -/
theorem compareIndex : Obligations.CompareIndex := by
  intro src s
  refine ⟨encode_cpx src, ?_⟩
  rw [exec_cpx, compareX_eq, sub16_eq, charge_eq]
  rfl

/-- The flags image as a number: the six flags at their bit positions, bits 7 and 6 set (R36). -/
theorem image_eq_ofNat (f : Flags) :
    f.image = BitVec.ofNat 8 (128 + 64 + 32 * f.h.toNat + 16 * f.i.toNat + 8 * f.n.toNat + 4 * f.z.toNat + 2 * f.v.toNat +
      f.c.toNat) := by
  obtain ⟨h, i, n, z, v, c⟩ := f
  cases h <;> cases i <;> cases n <;> cases z <;> cases v <;> cases c <;> rfl

/-- Settles O22: TAP reads the bits of the image, TPA writes it. -/
theorem transferFlags : Obligations.TransferFlags := by
  intro s
  refine ⟨rfl, rfl, rfl, ?_⟩
  rw [← image_eq_ofNat]
  rfl

/-- Settles O25: the register or the one write is 0, and the flags are fixed. -/
theorem clearWithoutReading : Obligations.ClearWithoutReading := by
  intro t s
  refine ⟨encode_clr t, ?_⟩
  rw [exec_clr]
  cases t with
  | acc r =>
    rw [clearTarget, clearAcc_eq]
    rfl
  | mem m => rfl

/-- Settles O33: the accumulator after ADCA is the binary sum, with the half carry and the carry that DAA looks at. -/
theorem decimalAdditionIsCorrect : Obligations.DecimalAdditionIsCorrect := by
  intro r s ha hr
  obtain ⟨hbcd, hvalue⟩ := bcdValue_daa_sum s.cc ha hr
  refine ⟨charge 2 (accOp aluAdc .a (.imm r) s), _, rfl, rfl, ?_⟩
  rw [accOp_eq, aluAdc_eq]
  exact ⟨hbcd, hvalue⟩

/-- The state after `CMPA #m` (R246). -/
def State.comparedA (s : State) (m : Byte) : State :=
  { s with cc := (differenceFlags s.cc s.a m false).2, budget := s.budget - 2 }

theorem exec_cmpaImm (m : Byte) (s : State) : exec (.cmpaImm m) s = .next (s.comparedA m) := by
  have h := exec_cmp .a (.imm m) s
  rw [accTest_eq, testCmp_eq, charge_eq] at h
  exact h

/-- Settles O41: each condition, read over the flags of the difference, is the order it is named after. -/
theorem branchesAfterCompareFollowTheOrder : Obligations.BranchesAfterCompareFollowTheOrder := by
  intro m rel8 s
  have hc : (s.comparedA m).cc.c = decide (s.a.toNat < m.toNat) := differenceFlags_c s.cc s.a m
  have hz : (s.comparedA m).cc.z = decide (s.a = m) := differenceFlags_z s.cc s.a m
  have hlt : ((s.comparedA m).cc.n != (s.comparedA m).cc.v) = decide (s.a.toInt < m.toInt) := differenceFlags_lt s.cc s.a m
  have hge : ((s.comparedA m).cc.n == (s.comparedA m).cc.v) = decide (m.toInt ≤ s.a.toInt) := by
    rw [← Bool.not_not (_ == _), ← bne, hlt, ← decide_not, decide_eq_decide, Int.not_lt]
  have heq : s.a = m ↔ s.a.toNat = m.toNat := BitVec.toNat_inj.symm
  have heqInt : s.a = m ↔ s.a.toInt = m.toInt := BitVec.toInt_inj.symm
  refine ⟨_, exec_cmpaImm m s, ?_, ?_, ?_, ?_, ?_, ?_, ?_, ?_, ?_, ?_⟩
  · rw [exec_bhi, hc, hz, ← Bool.decide_or, ← decide_not, decide_eq_decide.2]
    rw [heq]
    omega
  · rw [exec_bls, hc, hz, ← Bool.decide_or, decide_eq_decide.2]
    rw [heq]
    omega
  · rw [exec_bcc, hc, ← decide_not, decide_eq_decide.2]
    omega
  · rw [exec_bcs, hc]
  · rw [exec_bge, hge]
  · rw [exec_blt, hlt]
  · rw [exec_bgt, hz, hlt, ← Bool.decide_or, ← decide_not, decide_eq_decide.2]
    rw [heqInt]
    omega
  · rw [exec_ble, hz, hlt, ← Bool.decide_or, decide_eq_decide.2]
    rw [heqInt]
    omega
  · rw [exec_beq, hz]
  · rw [exec_bne, hz, ← decide_not]

end Sys2Proof.Machine
end

section
/-! SUPPORT. What a return reads back over RAM: the bytes of the pushes at their addresses, and what a call and an interrupt
entry leave (R64, R200, R329, R341, R366). -/

namespace Sys2Proof.Machine

/-- Each pushed byte stands at its own address, as long as the pushes do not come round. -/
theorem Memory.read_pushed (m : Memory) (sp : Word) (vs : List Byte) (hlen : vs.length ≤ 65536) {k : Nat}
    (hk : k < vs.length) : Memory.read (Memory.pushed m sp vs) (sp - BitVec.ofNat 16 k) = vs[k] := by
  induction vs generalizing m sp k with
  | nil => cases hk
  | cons v vs ih =>
    rw [List.length_cons] at hlen hk
    cases k with
    | zero =>
      rw [Memory.pushed, BitVec.sub_zero, Memory.read_pushed_of_ne, Memory.read_write_self, List.getElem_cons_zero]
      intro j hj
      bv_omega
    | succ k =>
      have haddr : sp - BitVec.ofNat 16 (k + 1) = sp - 1#16 - BitVec.ofNat 16 k := by
        rw [word_sub_sub sp 1, Nat.add_comm]
      rw [Memory.pushed, haddr, ih _ _ (by omega) (by omega), List.getElem_cons_succ]

/-- A byte pushed over RAM reads back, and the read leaves the memory side alone. -/
theorem Bus.read_pushed {b : Bus} {sp : Word} {vs : List Byte} (hlen : vs.length ≤ 65536)
    (hram : ∀ k < vs.length, resolve b.map (sp - BitVec.ofNat 16 k) = some .ram) {k : Nat} (hk : k < vs.length) :
    (b.pushed sp vs).read (sp - BitVec.ofNat 16 k) = (vs[k], b.pushed sp vs) := by
  rw [Bus.pushed_ram b sp vs hram, Bus.read_mem_ram (hram k hk), Memory.read_pushed b.mem sp vs hlen hk]

/-- A word read from plain addresses leaves the memory side alone. -/
theorem Bus.readBig_plain {b : Bus} {a : Word} (h0 : b.plain a = true) (h1 : b.plain (a + 1#16) = true) :
    b.readBig a = ((b.read a).1 ++ (b.read (a + 1#16)).1, b) := by
  simp only [Bus.readBig, Bus.read_plain h0, Bus.read_plain h1]

/-- An unmapped address reads as 0 (R63). -/
theorem Bus.read_unmapped {b : Bus} {a : Word} (h : resolve b.map a = none) : b.read a = (0x00#8, b) := by
  simp only [Bus.read, h]

/-- A word read whose bytes are those of `w`. -/
theorem Bus.readBig_eq_of_bytes {b : Bus} {a w : Word} (h0 : b.read a = (highByte w, b))
    (h1 : b.read (a + 1#16) = (lowByte w, b)) : b.readBig a = (w, b) := by
  simp only [Bus.readBig, h0, h1, highByte_append_lowByte]

theorem returnFromCall_charge (n : Nat) (s : State) : returnFromCall (charge n s) = charge n (returnFromCall s) := rfl

/-- A return from a call over RAM undoes the call, but for the bytes on the stack (R329). -/
theorem returnFromCall_callTo (target : Word) {s : State} (h0 : s.ramAt s.sp = true) (h1 : s.ramAt (s.sp - 1#16) = true) :
    returnFromCall (callTo target s) = { s with bus := (callTo target s).bus } := by
  rw [State.ramAt_iff] at h0 h1
  have hram : ∀ k < 2, resolve s.bus.map (s.sp - BitVec.ofNat 16 k) = some .ram
    | 0, _ => by rwa [BitVec.sub_zero]
    | 1, _ => h1
  have hread := fun k hk => Bus.read_pushed (vs := [lowByte s.pc, highByte s.pc]) (by simp) hram (k := k) hk
  have hlow := hread 0 Nat.zero_lt_two
  have hhigh := hread 1 Nat.one_lt_two
  have hbus : (callTo target s).bus = s.bus.pushed s.sp [lowByte s.pc, highByte s.pc] := by rw [callTo_eq]; rfl
  have hsp : (callTo target s).sp = s.sp - 2#16 := by rw [callTo_eq]
  have hback1 : s.sp - 2#16 + 1#16 = s.sp - BitVec.ofNat 16 1 := by bv_omega
  have hback2 : s.sp - BitVec.ofNat 16 1 + 1#16 = s.sp - BitVec.ofNat 16 0 := by bv_omega
  have hback : s.sp - 2#16 + 2#16 = s.sp := BitVec.sub_add_cancel ..
  rw [returnFromCall_eq, hsp, hbus, hback1, hback, Bus.readBig_eq_of_bytes hhigh (hback2 ▸ hlow), callTo_eq]

/-- The addresses of the frame are those of seven pushes from `sp` on (R366). -/
theorem frameAddrs_eq (sp : Word) : frameAddrs sp = (List.range 7).map fun k => sp - BitVec.ofNat 16 k := by
  rw [frameAddrs]
  simp [List.range_succ]

/-- A stack of RAM at the frame, as the pushes see it. -/
theorem State.ram_of_frameAddrs {s : State} (h : (frameAddrs s.sp).all s.ramAt = true) :
    ∀ k < 7, resolve s.bus.map (s.sp - BitVec.ofNat 16 k) = some .ram := by
  intro k hk
  rw [frameAddrs_eq, List.all_map, List.all_eq_true] at h
  exact (State.ramAt_iff s _).1 (h k (List.mem_range.2 hk))

/-- The memory side after an interrupt entry over a RAM stack, its vector at plain addresses (R366). -/
theorem State.entered_ram {s : State} {vector : Word} (cost : Nat) (hram : (frameAddrs s.sp).all s.ramAt = true)
    (hplain : s.plainAt [vector, vector + 1#16] = true) :
    (s.entered vector cost).bus = s.framed ∧
      s.framed = { s.bus with mem := Memory.pushed s.bus.mem s.sp (frameBytes s) } ∧
      (s.entered vector cost).pc = (s.framed.read vector).1 ++ (s.framed.read (vector + 1#16)).1 := by
  have hframed : s.framed = { s.bus with mem := Memory.pushed s.bus.mem s.sp (frameBytes s) } :=
    Bus.pushed_ram _ _ _ (State.ram_of_frameAddrs hram)
  have hplains : s.framed.plain vector = true ∧ s.framed.plain (vector + 1#16) = true := by
    rw [hframed]
    simp only [State.plainAt, List.all_cons, List.all_nil, Bool.and_true, Bool.and_eq_true] at hplain
    exact hplain
  have hread := Bus.readBig_plain hplains.1 hplains.2
  exact ⟨congrArg Prod.snd hread, hframed, congrArg Prod.fst hread⟩

/-- Each byte of the frame over a RAM stack stands at its address. -/
theorem State.read_framed {s : State} (hram : (frameAddrs s.sp).all s.ramAt = true) (k : Nat) (hk : k < 7) :
    s.framed.read (s.sp - BitVec.ofNat 16 k) = ((frameBytes s)[k], s.framed) :=
  Bus.read_pushed (vs := frameBytes s) (by simp [frameBytes]) (State.ram_of_frameAddrs hram) hk

/-- A return from interrupt that reads the frame of `s` gives the registers and the flags of `s` (R341). -/
theorem returnFromInterrupt_of_frame {s t : State} (hsp : t.sp = s.sp - 7#16)
    (hframe : ∀ k (hk : k < 7), t.bus.read (s.sp - BitVec.ofNat 16 k) = ((frameBytes s)[k], t.bus)) :
    returnFromInterrupt t =
      { t with cc := s.cc, b := s.b, a := s.a, x := s.x, pc := s.pc, sp := s.sp } := by
  have hread : ∀ k (hk : k < 7), t.bus.read (s.sp - 7#16 + BitVec.ofNat 16 (7 - k)) = ((frameBytes s)[k], t.bus) := by
    intro k hk
    have haddr : s.sp - 7#16 + BitVec.ofNat 16 (7 - k) = s.sp - BitVec.ofNat 16 k := by bv_omega
    rw [haddr, hframe k hk]
  have hcc : t.bus.read (s.sp - 7#16 + 1#16) = (s.cc.image, t.bus) := hread 6 (by decide)
  have hb : t.bus.read (s.sp - 7#16 + 2#16) = (s.b, t.bus) := hread 5 (by decide)
  have ha : t.bus.read (s.sp - 7#16 + 3#16) = (s.a, t.bus) := hread 4 (by decide)
  have hx : t.bus.readBig (s.sp - 7#16 + 4#16) = (s.x, t.bus) :=
    Bus.readBig_eq_of_bytes (hread 3 (by decide)) (word_add_add _ 4 1 ▸ hread 2 (by decide))
  have hpc : t.bus.readBig (s.sp - 7#16 + 6#16) = (s.pc, t.bus) :=
    Bus.readBig_eq_of_bytes (hread 1 (by decide)) (word_add_add _ 6 1 ▸ hread 0 (by decide))
  rw [returnFromInterrupt_eq, hsp]
  simp only [hcc, hb, ha, hx, hpc, Flags.ofImage_image, BitVec.sub_add_cancel]

end Sys2Proof.Machine
end

section
/-! The register file, the reset, and the ways back from a call and an interrupt: the statements. -/

namespace Sys2Proof.Machine

/-- Settles O51: the reset state is a closed term. -/
theorem resetStateIsWellFormed : Obligations.ResetStateIsWellFormed :=
  ⟨rfl, rfl, rfl, rfl, rfl⟩

/-- Settles O57: the reset reads its vector once, and touches nothing else of the memory side. (The model's operation has the
name of the statement.) -/
theorem resetTransaction_holds : Obligations.ResetTransaction := by
  intro s
  refine ⟨rfl, rfl, rfl, rfl, rfl, rfl, fun h => ?_, fun h0 h1 => ?_⟩
  · simp only [State.plainAt, List.all_cons, List.all_nil, Bool.and_true, Bool.and_eq_true] at h
    exact congrArg Prod.snd (Bus.readBig_plain (a := 0xFFFE#16) h.1 h.2)
  · have hvector : s.bus.readBig 0xFFFE#16 = (0x0000#16, s.bus) :=
      Bus.readBig_eq_of_bytes (Bus.read_unmapped h0) (Bus.read_unmapped h1)
    exact congrArg Prod.fst hvector

/-- The flags image of a byte moved into the flags: bits 7 and 6 read as 1 (R36). -/
theorem Flags.image_ofImage (v : Byte) : (Flags.ofImage v).image = v ||| 0xC0#8 := by
  decide +revert

theorem Flags.ofImage_and (v : Byte) : Flags.ofImage (v &&& 0x3F#8) = Flags.ofImage v := by
  simp [Flags.ofImage]

/-- Settles O58: the flags go through their image and back, and the image has no other information. -/
theorem registerFileRoundTrip : Obligations.RegisterFileRoundTrip := by
  intro s rf
  refine ⟨?_, ?_, rfl, rfl, ?_⟩
  · simp only [setRegisters, getRegisters, Flags.ofImage_image]
  · simp only [setRegisters, getRegisters, Flags.image_ofImage]
  · simp only [setRegisters, Flags.ofImage_and]

/-- Settles O44: both calls are the one call, which the return undoes. -/
theorem callThenReturn : Obligations.CallThenReturn := by
  intro m rel8 s h0 h1
  refine ⟨⟨_, _, exec_bsr rel8 s, exec_rts _, ?_, ?_⟩, ⟨_, _, exec_jsr m s, exec_rts _, ?_⟩⟩
  · rw [returnFromCall_charge, returnFromCall_callTo _ h0 h1]
    simp only [charge_eq, callTo_eq, Int.sub_sub]
    rfl
  · rw [charge_eq, callTo_eq]
  · rw [returnFromCall_charge, returnFromCall_callTo _ h0 h1, charge_eq, charge_eq, charge_eq, callTo_eq]
    exact ⟨rfl, rfl⟩

/-- Settles O16: over RAM each byte of the frame stands at its address, and the vector's reads change nothing. -/
theorem entryBuildsTheFrame : Obligations.EntryBuildsTheFrame := by
  intro s vector cost hram hplain
  obtain ⟨hbus, hframed, hpc⟩ := State.entered_ram cost hram hplain
  have hbyte : ∀ k (hk : k < 7), s.framed.mem.read (s.sp - BitVec.ofNat 16 k) = (frameBytes s)[k] := by
    intro k hk
    rw [hframed, Memory.read_pushed s.bus.mem s.sp (frameBytes s) (by simp [frameBytes]) hk]
  have hother : ∀ a, a ∉ frameAddrs s.sp → s.framed.mem.read a = s.bus.mem.read a := by
    intro a ha
    rw [hframed, Memory.read_pushed_of_ne]
    rintro k hk rfl
    rw [frameAddrs_eq, List.mem_map] at ha
    exact ha ⟨k, List.mem_range.2 hk, rfl⟩
  rw [enterInterrupt_eq]
  dsimp only
  rw [hbus]
  refine ⟨BitVec.sub_zero s.sp ▸ hbyte 0 (by decide), hbyte 1 (by decide), hbyte 2 (by decide), hbyte 3 (by decide),
    hbyte 4 (by decide), hbyte 5 (by decide), hbyte 6 (by decide), hother, ?_⟩
  rw [← hpc, ← hframed, ← hbus]
  rfl

/-- Settles O47: the entry leaves the frame, with `SP` below it. -/
theorem returnUndoesEntry : Obligations.ReturnUndoesEntry := by
  intro s vector cost hram hplain
  obtain ⟨hbus, _⟩ := State.entered_ram cost hram hplain
  have hframe := hbus ▸ State.read_framed hram
  refine ⟨_, exec_rti _, ?_⟩
  rw [charge_eq, enterInterrupt_eq, returnFromInterrupt_of_frame rfl hframe]
  rfl

end Sys2Proof.Machine
end
